-- ==== Sys2Proof/Word.lean ====
section
/-! DEFINITION. The word types of the core: bytes, and the 16-bit registers and addresses
(00_scope.md rule R6). -/

namespace Sys2Proof

/-- A data word: 8 bits. -/
abbrev Byte := BitVec 8

/-- A 16-bit register, memory address or port address. -/
abbrev Word := BitVec 16

end Sys2Proof
end

