-- ==== Sys2Proof/Machine/Bits.lean ====
section
/-! DEFINITION. The bit-field and byte-order helpers of 00_scope.md rule R7 and 20_memory.md rule R73. -/

namespace Sys2Proof.Machine

/-- `hi:lo`, the 16-bit value `hi * 256 + lo` (00_scope.md rule R7). -/
def pair (hi lo : Byte) : Word := hi ++ lo

/-- `v[15:8]`. -/
def hiByte (v : Word) : Byte := v.extractLsb' 8 8

/-- `v[7:0]`. -/
def loByte (v : Word) : Byte := v.extractLsb' 0 8

/-- `sext_16(v)`. -/
def sext16 (v : Byte) : Word := v.signExtend 16

/-- The displaced address `trunc_16(base + sext_16(d))` (30_encoding.md rule R110). -/
def displaced (base : Word) (d : Byte) : Word := base + sext16 d

/-- The byte with only bit `b` set. -/
def bitMask (b : Fin 8) : Byte := 1#8 <<< b.val

/-- The refresh count step (10_state.md rule R37): bits 6-0 count modulo 128, bit 7 is kept. -/
def refreshStep (r : Byte) : Byte := (r &&& 0x80#8) ||| ((r + 1) &&& 0x7F#8)

end Sys2Proof.Machine
end

