-- ==== Sys2Proof/Syntax/Tables.lean ====
section
/-! DEFINITION. The operand tables of 30_encoding.md rules R102 to R108, and a table entry with its
operands as a structured type: the ED table (`EdOp`) and every table (`Op`). -/

namespace Sys2Proof

/-- The 8-bit registers of table `r` (30_encoding.md rule R102), without its memory entry. -/
inductive Reg8 where
  | b | c | d | e | h | l | a
deriving DecidableEq, Repr

/-- The index registers. -/
inductive IdxReg where
  | ix | iy
deriving DecidableEq, Repr

/-- `index_mode` (10_state.md rule R45). -/
inductive IndexMode where
  | hl | ix | iy
deriving DecidableEq, Repr

/-- The halves of an index register (10_state.md rule R33). -/
inductive Half where
  | hi | lo
deriving DecidableEq, Repr

/-- An 8-bit register or an index half. -/
inductive Loc8 where
  | reg (r : Reg8)
  | half (m : IdxReg) (h : Half)
deriving DecidableEq, Repr

/-- The memory operand (HL), (IX+d) or (IY+d). -/
inductive MemOp where
  | atHL
  | atIdx (m : IdxReg) (d : Byte)
deriving DecidableEq, Repr

/-- The 8-bit source operand `s` (30_encoding.md rule R126). -/
inductive Src8 where
  | loc (k : Loc8)
  | mem (o : MemOp)
  | imm (n : Byte)
deriving DecidableEq, Repr

/-- The 16-bit registers and pairs. -/
inductive Reg16 where
  | bc | de | hl | af | sp | ix | iy
deriving DecidableEq, Repr

/-- Table `rp` (30_encoding.md rule R103). -/
inductive Rp where
  | bc | de | hl | sp
deriving DecidableEq, Repr

/-- Table `rp2` (30_encoding.md rule R103). -/
inductive Rp2 where
  | bc | de | hl | af
deriving DecidableEq, Repr

/-- Table `cc` (30_encoding.md rule R104). -/
inductive Cond where
  | nz | z | nc | c | po | pe | p | m
deriving DecidableEq, Repr

/-- Table `alu` (30_encoding.md rule R105). -/
inductive AluOp where
  | add | adc | sub | sbc | and | xor | or | cp
deriving DecidableEq, Repr

/-- Table `rot` (30_encoding.md rule R106). -/
inductive RotOp where
  | rlc | rrc | rl | rr | sla | sra | sll | srl
deriving DecidableEq, Repr

/-- The four families of block instructions (45_block.md). -/
inductive BlockFamily where
  | ld | cp | inp | outp
deriving DecidableEq, Repr

/-- The ED table (30_encoding.md rule R116), as it is read after a DD or FD prefix, which it discards
(48_cpu_control.md rule R438). `y` is the y field of a mirrored slot. -/
inductive EdOp where
  | inReg (k : Reg8)
  | inF
  | outReg (k : Reg8)
  | outZero
  | sbcHL (p : Rp)
  | adcHL (p : Rp)
  | store (p : Rp) (nn : Word)
  | load (p : Rp) (nn : Word)
  | neg (y : Fin 8)
  | reti
  | retn (y : Fin 8)
  | im (y : Fin 8)
  | ldIA
  | ldRA
  | ldAI
  | ldAR
  | rrd
  | rld
  /-- Table `bli` (rule R108): family, I-form or D-form, repeating or not. -/
  | block (fam : BlockFamily) (up rep : Bool)
  /-- A no-op slot (48_cpu_control.md rule R435) with its operation byte. -/
  | noni (op : Byte)
deriving DecidableEq, Repr

/-- A table entry with its operands: what the decoder reads before it is given its mnemonic's
constructor of `Instr`. `m` is the index mode, `o` a memory operand, `z` the register an indexed CB form
names (none for z = 6). -/
inductive Op where
  -- 40_load8.md
  | ld (m : IndexMode) (y z : Reg8)
  | ldImm (m : IndexMode) (y : Reg8) (n : Byte)
  | ldFrom (o : MemOp) (y : Reg8)
  | ldTo (o : MemOp) (z : Reg8)
  | ldToImm (o : MemOp) (n : Byte)
  | ldAFromBC
  | ldAFromDE
  | ldAFromNn (nn : Word)
  | ldAToBC
  | ldAToDE
  | ldAToNn (nn : Word)
  -- 41_load16_exchange.md
  | ld16Imm (m : IndexMode) (p : Rp) (nn : Word)
  | ld16From (m : IndexMode) (nn : Word)
  | ld16To (m : IndexMode) (nn : Word)
  | ldSp (m : IndexMode)
  | push (m : IndexMode) (p : Rp2)
  | pop (m : IndexMode) (p : Rp2)
  | exDeHl
  | exAf
  | exx
  | exSp (m : IndexMode)
  -- 42_alu8.md
  | aluReg (m : IndexMode) (a : AluOp) (z : Reg8)
  | aluMem (a : AluOp) (o : MemOp)
  | aluImm (a : AluOp) (n : Byte)
  | incReg (m : IndexMode) (y : Reg8)
  | incMem (o : MemOp)
  | decReg (m : IndexMode) (y : Reg8)
  | decMem (o : MemOp)
  | daa
  | cpl
  | scf
  | ccf
  -- 43_alu16.md
  | add16 (m : IndexMode) (p : Rp)
  | inc16 (m : IndexMode) (p : Rp)
  | dec16 (m : IndexMode) (p : Rp)
  -- 44_rotate_shift_bit.md
  | rlca
  | rrca
  | rla
  | rra
  | rotReg (k : RotOp) (z : Reg8)
  | rotHL (k : RotOp)
  | rotIdx (m : IdxReg) (k : RotOp) (z : Option Reg8) (d : Byte)
  | bitReg (b : Fin 8) (z : Reg8)
  | bitHL (b : Fin 8)
  | bitIdx (m : IdxReg) (b z : Fin 8) (d : Byte)
  | resReg (b : Fin 8) (z : Reg8)
  | resHL (b : Fin 8)
  | resIdx (m : IdxReg) (b : Fin 8) (z : Option Reg8) (d : Byte)
  | setReg (b : Fin 8) (z : Reg8)
  | setHL (b : Fin 8)
  | setIdx (m : IdxReg) (b : Fin 8) (z : Option Reg8) (d : Byte)
  -- 46_io.md, main table
  | inA (n : Byte)
  | outA (n : Byte)
  -- 47_control_flow.md
  | jp (nn : Word)
  | jpCc (k : Cond) (nn : Word)
  | jr (e : Byte)
  | jrCc (k : Fin 4) (e : Byte)
  | djnz (e : Byte)
  | jpReg (m : IndexMode)
  | call (nn : Word)
  | callCc (k : Cond) (nn : Word)
  | ret
  | retCc (k : Cond)
  | rst (y : Fin 8)
  -- 48_cpu_control.md
  | nop
  | halt
  | di
  | ei
  /-- A DD (IX) or FD (IY) byte read under index mode `m`. -/
  | index (x : IdxReg) (m : IndexMode)
  -- the ED table, and the ED table after a DD or FD prefix
  | ed (e : EdOp)
  | edUnder (x : IdxReg) (e : EdOp)
deriving DecidableEq, Repr

end Sys2Proof
end

