-- ==== Sys2Proof/Syntax.lean ====
section
/-! DEFINITION. The abstract syntax: `Instr`, one constructor for each mnemonic of
spec/opcode_table.json. Naming: operands follow the mnemonic, separated by underscores; `atHL`, `atNn`,
`atIXd` stand for (HL), (nn), (IX+d). -/

namespace Sys2Proof

/-- The instructions. `n`, `nn`, `d` and `e` are the operand bytes of 30_encoding.md rules R109 and
R110. `y` and `z` are fields that several rows of one mnemonic differ in: the y field of the ED mirrors
(rule R116) and the z field of an indexed BIT (44_rotate_shift_bit.md rule R342). `op` is the operation
byte of an ED no-op slot. `prefixIX_ED` and `prefixIY_ED` carry the ED instruction that follows. -/
inductive Instr where
  -- the main table (rules R111 to R114)
  | nop
  | ld_BC_nn (nn : Word)
  | ld_atBC_A
  | inc_BC
  | inc_B
  | dec_B
  | ld_B_n (n : Byte)
  | rlca
  | ex_AF_AF
  | add_HL_BC
  | ld_A_atBC
  | dec_BC
  | inc_C
  | dec_C
  | ld_C_n (n : Byte)
  | rrca
  | djnz_e (e : Byte)
  | ld_DE_nn (nn : Word)
  | ld_atDE_A
  | inc_DE
  | inc_D
  | dec_D
  | ld_D_n (n : Byte)
  | rla
  | jr_e (e : Byte)
  | add_HL_DE
  | ld_A_atDE
  | dec_DE
  | inc_E
  | dec_E
  | ld_E_n (n : Byte)
  | rra
  | jr_NZ_e (e : Byte)
  | ld_HL_nn (nn : Word)
  | ld_atNn_HL (nn : Word)
  | inc_HL
  | inc_H
  | dec_H
  | ld_H_n (n : Byte)
  | daa
  | jr_Z_e (e : Byte)
  | add_HL_HL
  | ld_HL_atNn (nn : Word)
  | dec_HL
  | inc_L
  | dec_L
  | ld_L_n (n : Byte)
  | cpl
  | jr_NC_e (e : Byte)
  | ld_SP_nn (nn : Word)
  | ld_atNn_A (nn : Word)
  | inc_SP
  | inc_atHL
  | dec_atHL
  | ld_atHL_n (n : Byte)
  | scf
  | jr_C_e (e : Byte)
  | add_HL_SP
  | ld_A_atNn (nn : Word)
  | dec_SP
  | inc_A
  | dec_A
  | ld_A_n (n : Byte)
  | ccf
  | ld_B_B
  | ld_B_C
  | ld_B_D
  | ld_B_E
  | ld_B_H
  | ld_B_L
  | ld_B_atHL
  | ld_B_A
  | ld_C_B
  | ld_C_C
  | ld_C_D
  | ld_C_E
  | ld_C_H
  | ld_C_L
  | ld_C_atHL
  | ld_C_A
  | ld_D_B
  | ld_D_C
  | ld_D_D
  | ld_D_E
  | ld_D_H
  | ld_D_L
  | ld_D_atHL
  | ld_D_A
  | ld_E_B
  | ld_E_C
  | ld_E_D
  | ld_E_E
  | ld_E_H
  | ld_E_L
  | ld_E_atHL
  | ld_E_A
  | ld_H_B
  | ld_H_C
  | ld_H_D
  | ld_H_E
  | ld_H_H
  | ld_H_L
  | ld_H_atHL
  | ld_H_A
  | ld_L_B
  | ld_L_C
  | ld_L_D
  | ld_L_E
  | ld_L_H
  | ld_L_L
  | ld_L_atHL
  | ld_L_A
  | ld_atHL_B
  | ld_atHL_C
  | ld_atHL_D
  | ld_atHL_E
  | ld_atHL_H
  | ld_atHL_L
  | halt
  | ld_atHL_A
  | ld_A_B
  | ld_A_C
  | ld_A_D
  | ld_A_E
  | ld_A_H
  | ld_A_L
  | ld_A_atHL
  | ld_A_A
  | add_A_B
  | add_A_C
  | add_A_D
  | add_A_E
  | add_A_H
  | add_A_L
  | add_A_atHL
  | add_A_A
  | adc_A_B
  | adc_A_C
  | adc_A_D
  | adc_A_E
  | adc_A_H
  | adc_A_L
  | adc_A_atHL
  | adc_A_A
  | sub_B
  | sub_C
  | sub_D
  | sub_E
  | sub_H
  | sub_L
  | sub_atHL
  | sub_A
  | sbc_A_B
  | sbc_A_C
  | sbc_A_D
  | sbc_A_E
  | sbc_A_H
  | sbc_A_L
  | sbc_A_atHL
  | sbc_A_A
  | and_B
  | and_C
  | and_D
  | and_E
  | and_H
  | and_L
  | and_atHL
  | and_A
  | xor_B
  | xor_C
  | xor_D
  | xor_E
  | xor_H
  | xor_L
  | xor_atHL
  | xor_A
  | or_B
  | or_C
  | or_D
  | or_E
  | or_H
  | or_L
  | or_atHL
  | or_A
  | cp_B
  | cp_C
  | cp_D
  | cp_E
  | cp_H
  | cp_L
  | cp_atHL
  | cp_A
  | ret_NZ
  | pop_BC
  | jp_NZ_nn (nn : Word)
  | jp_nn (nn : Word)
  | call_NZ_nn (nn : Word)
  | push_BC
  | add_A_n (n : Byte)
  | rst_00
  | ret_Z
  | ret
  | jp_Z_nn (nn : Word)
  | call_Z_nn (nn : Word)
  | call_nn (nn : Word)
  | adc_A_n (n : Byte)
  | rst_08
  | ret_NC
  | pop_DE
  | jp_NC_nn (nn : Word)
  | out_atN_A (n : Byte)
  | call_NC_nn (nn : Word)
  | push_DE
  | sub_n (n : Byte)
  | rst_10
  | ret_C
  | exx
  | jp_C_nn (nn : Word)
  | in_A_atN (n : Byte)
  | call_C_nn (nn : Word)
  | prefixIX
  | sbc_A_n (n : Byte)
  | rst_18
  | ret_PO
  | pop_HL
  | jp_PO_nn (nn : Word)
  | ex_atSP_HL
  | call_PO_nn (nn : Word)
  | push_HL
  | and_n (n : Byte)
  | rst_20
  | ret_PE
  | jp_atHL
  | jp_PE_nn (nn : Word)
  | ex_DE_HL
  | call_PE_nn (nn : Word)
  | xor_n (n : Byte)
  | rst_28
  | ret_P
  | pop_AF
  | jp_P_nn (nn : Word)
  | di
  | call_P_nn (nn : Word)
  | push_AF
  | or_n (n : Byte)
  | rst_30
  | ret_M
  | ld_SP_HL
  | jp_M_nn (nn : Word)
  | ei
  | call_M_nn (nn : Word)
  | prefixIY
  | cp_n (n : Byte)
  | rst_38
  -- the CB table (rule R115)
  | rlc_B
  | rlc_C
  | rlc_D
  | rlc_E
  | rlc_H
  | rlc_L
  | rlc_atHL
  | rlc_A
  | rrc_B
  | rrc_C
  | rrc_D
  | rrc_E
  | rrc_H
  | rrc_L
  | rrc_atHL
  | rrc_A
  | rl_B
  | rl_C
  | rl_D
  | rl_E
  | rl_H
  | rl_L
  | rl_atHL
  | rl_A
  | rr_B
  | rr_C
  | rr_D
  | rr_E
  | rr_H
  | rr_L
  | rr_atHL
  | rr_A
  | sla_B
  | sla_C
  | sla_D
  | sla_E
  | sla_H
  | sla_L
  | sla_atHL
  | sla_A
  | sra_B
  | sra_C
  | sra_D
  | sra_E
  | sra_H
  | sra_L
  | sra_atHL
  | sra_A
  | sll_B
  | sll_C
  | sll_D
  | sll_E
  | sll_H
  | sll_L
  | sll_atHL
  | sll_A
  | srl_B
  | srl_C
  | srl_D
  | srl_E
  | srl_H
  | srl_L
  | srl_atHL
  | srl_A
  | bit_0_B
  | bit_0_C
  | bit_0_D
  | bit_0_E
  | bit_0_H
  | bit_0_L
  | bit_0_atHL
  | bit_0_A
  | bit_1_B
  | bit_1_C
  | bit_1_D
  | bit_1_E
  | bit_1_H
  | bit_1_L
  | bit_1_atHL
  | bit_1_A
  | bit_2_B
  | bit_2_C
  | bit_2_D
  | bit_2_E
  | bit_2_H
  | bit_2_L
  | bit_2_atHL
  | bit_2_A
  | bit_3_B
  | bit_3_C
  | bit_3_D
  | bit_3_E
  | bit_3_H
  | bit_3_L
  | bit_3_atHL
  | bit_3_A
  | bit_4_B
  | bit_4_C
  | bit_4_D
  | bit_4_E
  | bit_4_H
  | bit_4_L
  | bit_4_atHL
  | bit_4_A
  | bit_5_B
  | bit_5_C
  | bit_5_D
  | bit_5_E
  | bit_5_H
  | bit_5_L
  | bit_5_atHL
  | bit_5_A
  | bit_6_B
  | bit_6_C
  | bit_6_D
  | bit_6_E
  | bit_6_H
  | bit_6_L
  | bit_6_atHL
  | bit_6_A
  | bit_7_B
  | bit_7_C
  | bit_7_D
  | bit_7_E
  | bit_7_H
  | bit_7_L
  | bit_7_atHL
  | bit_7_A
  | res_0_B
  | res_0_C
  | res_0_D
  | res_0_E
  | res_0_H
  | res_0_L
  | res_0_atHL
  | res_0_A
  | res_1_B
  | res_1_C
  | res_1_D
  | res_1_E
  | res_1_H
  | res_1_L
  | res_1_atHL
  | res_1_A
  | res_2_B
  | res_2_C
  | res_2_D
  | res_2_E
  | res_2_H
  | res_2_L
  | res_2_atHL
  | res_2_A
  | res_3_B
  | res_3_C
  | res_3_D
  | res_3_E
  | res_3_H
  | res_3_L
  | res_3_atHL
  | res_3_A
  | res_4_B
  | res_4_C
  | res_4_D
  | res_4_E
  | res_4_H
  | res_4_L
  | res_4_atHL
  | res_4_A
  | res_5_B
  | res_5_C
  | res_5_D
  | res_5_E
  | res_5_H
  | res_5_L
  | res_5_atHL
  | res_5_A
  | res_6_B
  | res_6_C
  | res_6_D
  | res_6_E
  | res_6_H
  | res_6_L
  | res_6_atHL
  | res_6_A
  | res_7_B
  | res_7_C
  | res_7_D
  | res_7_E
  | res_7_H
  | res_7_L
  | res_7_atHL
  | res_7_A
  | set_0_B
  | set_0_C
  | set_0_D
  | set_0_E
  | set_0_H
  | set_0_L
  | set_0_atHL
  | set_0_A
  | set_1_B
  | set_1_C
  | set_1_D
  | set_1_E
  | set_1_H
  | set_1_L
  | set_1_atHL
  | set_1_A
  | set_2_B
  | set_2_C
  | set_2_D
  | set_2_E
  | set_2_H
  | set_2_L
  | set_2_atHL
  | set_2_A
  | set_3_B
  | set_3_C
  | set_3_D
  | set_3_E
  | set_3_H
  | set_3_L
  | set_3_atHL
  | set_3_A
  | set_4_B
  | set_4_C
  | set_4_D
  | set_4_E
  | set_4_H
  | set_4_L
  | set_4_atHL
  | set_4_A
  | set_5_B
  | set_5_C
  | set_5_D
  | set_5_E
  | set_5_H
  | set_5_L
  | set_5_atHL
  | set_5_A
  | set_6_B
  | set_6_C
  | set_6_D
  | set_6_E
  | set_6_H
  | set_6_L
  | set_6_atHL
  | set_6_A
  | set_7_B
  | set_7_C
  | set_7_D
  | set_7_E
  | set_7_H
  | set_7_L
  | set_7_atHL
  | set_7_A
  -- the ED table (rule R116)
  | noni (op : Byte)
  | in_B_atC
  | out_atC_B
  | sbc_HL_BC
  | ld_atNn_BC (nn : Word)
  | neg (y : Fin 8)
  | retn (y : Fin 8)
  | im_0 (y : Fin 8)
  | ld_I_A
  | in_C_atC
  | out_atC_C
  | adc_HL_BC
  | ld_BC_atNn (nn : Word)
  | reti
  | ld_R_A
  | in_D_atC
  | out_atC_D
  | sbc_HL_DE
  | ld_atNn_DE (nn : Word)
  | im_1 (y : Fin 8)
  | ld_A_I
  | in_E_atC
  | out_atC_E
  | adc_HL_DE
  | ld_DE_atNn (nn : Word)
  | im_2 (y : Fin 8)
  | ld_A_R
  | in_H_atC
  | out_atC_H
  | sbc_HL_HL
  | ld_atNn_HL_ed (nn : Word)
  | rrd
  | in_L_atC
  | out_atC_L
  | adc_HL_HL
  | ld_HL_atNn_ed (nn : Word)
  | rld
  | in_F_atC
  | out_atC_0
  | sbc_HL_SP
  | ld_atNn_SP (nn : Word)
  | in_A_atC
  | out_atC_A
  | adc_HL_SP
  | ld_SP_atNn (nn : Word)
  | ldi
  | cpi
  | ini
  | outi
  | ldd
  | cpd
  | ind
  | outd
  | ldir
  | cpir
  | inir
  | otir
  | lddr
  | cpdr
  | indr
  | otdr
  -- the DD forms (rule R117)
  | add_IX_BC
  | add_IX_DE
  | ld_IX_nn (nn : Word)
  | ld_atNn_IX (nn : Word)
  | inc_IX
  | inc_IXH
  | dec_IXH
  | ld_IXH_n (n : Byte)
  | add_IX_IX
  | ld_IX_atNn (nn : Word)
  | dec_IX
  | inc_IXL
  | dec_IXL
  | ld_IXL_n (n : Byte)
  | inc_atIXd (d : Byte)
  | dec_atIXd (d : Byte)
  | ld_atIXd_n (d : Byte) (n : Byte)
  | add_IX_SP
  | ld_B_IXH
  | ld_B_IXL
  | ld_B_atIXd (d : Byte)
  | ld_C_IXH
  | ld_C_IXL
  | ld_C_atIXd (d : Byte)
  | ld_D_IXH
  | ld_D_IXL
  | ld_D_atIXd (d : Byte)
  | ld_E_IXH
  | ld_E_IXL
  | ld_E_atIXd (d : Byte)
  | ld_IXH_B
  | ld_IXH_C
  | ld_IXH_D
  | ld_IXH_E
  | ld_IXH_IXH
  | ld_IXH_IXL
  | ld_H_atIXd (d : Byte)
  | ld_IXH_A
  | ld_IXL_B
  | ld_IXL_C
  | ld_IXL_D
  | ld_IXL_E
  | ld_IXL_IXH
  | ld_IXL_IXL
  | ld_L_atIXd (d : Byte)
  | ld_IXL_A
  | ld_atIXd_B (d : Byte)
  | ld_atIXd_C (d : Byte)
  | ld_atIXd_D (d : Byte)
  | ld_atIXd_E (d : Byte)
  | ld_atIXd_H (d : Byte)
  | ld_atIXd_L (d : Byte)
  | ld_atIXd_A (d : Byte)
  | ld_A_IXH
  | ld_A_IXL
  | ld_A_atIXd (d : Byte)
  | add_A_IXH
  | add_A_IXL
  | add_A_atIXd (d : Byte)
  | adc_A_IXH
  | adc_A_IXL
  | adc_A_atIXd (d : Byte)
  | sub_IXH
  | sub_IXL
  | sub_atIXd (d : Byte)
  | sbc_A_IXH
  | sbc_A_IXL
  | sbc_A_atIXd (d : Byte)
  | and_IXH
  | and_IXL
  | and_atIXd (d : Byte)
  | xor_IXH
  | xor_IXL
  | xor_atIXd (d : Byte)
  | or_IXH
  | or_IXL
  | or_atIXd (d : Byte)
  | cp_IXH
  | cp_IXL
  | cp_atIXd (d : Byte)
  | prefixIX_overIX
  | pop_IX
  | ex_atSP_IX
  | push_IX
  | jp_atIX
  | prefixIX_ED (e : EdOp)
  | ld_SP_IX
  | prefixIY_overIX
  -- the FD forms (rule R117)
  | add_IY_BC
  | add_IY_DE
  | ld_IY_nn (nn : Word)
  | ld_atNn_IY (nn : Word)
  | inc_IY
  | inc_IYH
  | dec_IYH
  | ld_IYH_n (n : Byte)
  | add_IY_IY
  | ld_IY_atNn (nn : Word)
  | dec_IY
  | inc_IYL
  | dec_IYL
  | ld_IYL_n (n : Byte)
  | inc_atIYd (d : Byte)
  | dec_atIYd (d : Byte)
  | ld_atIYd_n (d : Byte) (n : Byte)
  | add_IY_SP
  | ld_B_IYH
  | ld_B_IYL
  | ld_B_atIYd (d : Byte)
  | ld_C_IYH
  | ld_C_IYL
  | ld_C_atIYd (d : Byte)
  | ld_D_IYH
  | ld_D_IYL
  | ld_D_atIYd (d : Byte)
  | ld_E_IYH
  | ld_E_IYL
  | ld_E_atIYd (d : Byte)
  | ld_IYH_B
  | ld_IYH_C
  | ld_IYH_D
  | ld_IYH_E
  | ld_IYH_IYH
  | ld_IYH_IYL
  | ld_H_atIYd (d : Byte)
  | ld_IYH_A
  | ld_IYL_B
  | ld_IYL_C
  | ld_IYL_D
  | ld_IYL_E
  | ld_IYL_IYH
  | ld_IYL_IYL
  | ld_L_atIYd (d : Byte)
  | ld_IYL_A
  | ld_atIYd_B (d : Byte)
  | ld_atIYd_C (d : Byte)
  | ld_atIYd_D (d : Byte)
  | ld_atIYd_E (d : Byte)
  | ld_atIYd_H (d : Byte)
  | ld_atIYd_L (d : Byte)
  | ld_atIYd_A (d : Byte)
  | ld_A_IYH
  | ld_A_IYL
  | ld_A_atIYd (d : Byte)
  | add_A_IYH
  | add_A_IYL
  | add_A_atIYd (d : Byte)
  | adc_A_IYH
  | adc_A_IYL
  | adc_A_atIYd (d : Byte)
  | sub_IYH
  | sub_IYL
  | sub_atIYd (d : Byte)
  | sbc_A_IYH
  | sbc_A_IYL
  | sbc_A_atIYd (d : Byte)
  | and_IYH
  | and_IYL
  | and_atIYd (d : Byte)
  | xor_IYH
  | xor_IYL
  | xor_atIYd (d : Byte)
  | or_IYH
  | or_IYL
  | or_atIYd (d : Byte)
  | cp_IYH
  | cp_IYL
  | cp_atIYd (d : Byte)
  | prefixIX_overIY
  | pop_IY
  | ex_atSP_IY
  | push_IY
  | jp_atIY
  | prefixIY_ED (e : EdOp)
  | ld_SP_IY
  | prefixIY_overIY
  -- the DD CB forms (rule R119)
  | rlc_atIXd_B (d : Byte)
  | rlc_atIXd_C (d : Byte)
  | rlc_atIXd_D (d : Byte)
  | rlc_atIXd_E (d : Byte)
  | rlc_atIXd_H (d : Byte)
  | rlc_atIXd_L (d : Byte)
  | rlc_atIXd (d : Byte)
  | rlc_atIXd_A (d : Byte)
  | rrc_atIXd_B (d : Byte)
  | rrc_atIXd_C (d : Byte)
  | rrc_atIXd_D (d : Byte)
  | rrc_atIXd_E (d : Byte)
  | rrc_atIXd_H (d : Byte)
  | rrc_atIXd_L (d : Byte)
  | rrc_atIXd (d : Byte)
  | rrc_atIXd_A (d : Byte)
  | rl_atIXd_B (d : Byte)
  | rl_atIXd_C (d : Byte)
  | rl_atIXd_D (d : Byte)
  | rl_atIXd_E (d : Byte)
  | rl_atIXd_H (d : Byte)
  | rl_atIXd_L (d : Byte)
  | rl_atIXd (d : Byte)
  | rl_atIXd_A (d : Byte)
  | rr_atIXd_B (d : Byte)
  | rr_atIXd_C (d : Byte)
  | rr_atIXd_D (d : Byte)
  | rr_atIXd_E (d : Byte)
  | rr_atIXd_H (d : Byte)
  | rr_atIXd_L (d : Byte)
  | rr_atIXd (d : Byte)
  | rr_atIXd_A (d : Byte)
  | sla_atIXd_B (d : Byte)
  | sla_atIXd_C (d : Byte)
  | sla_atIXd_D (d : Byte)
  | sla_atIXd_E (d : Byte)
  | sla_atIXd_H (d : Byte)
  | sla_atIXd_L (d : Byte)
  | sla_atIXd (d : Byte)
  | sla_atIXd_A (d : Byte)
  | sra_atIXd_B (d : Byte)
  | sra_atIXd_C (d : Byte)
  | sra_atIXd_D (d : Byte)
  | sra_atIXd_E (d : Byte)
  | sra_atIXd_H (d : Byte)
  | sra_atIXd_L (d : Byte)
  | sra_atIXd (d : Byte)
  | sra_atIXd_A (d : Byte)
  | sll_atIXd_B (d : Byte)
  | sll_atIXd_C (d : Byte)
  | sll_atIXd_D (d : Byte)
  | sll_atIXd_E (d : Byte)
  | sll_atIXd_H (d : Byte)
  | sll_atIXd_L (d : Byte)
  | sll_atIXd (d : Byte)
  | sll_atIXd_A (d : Byte)
  | srl_atIXd_B (d : Byte)
  | srl_atIXd_C (d : Byte)
  | srl_atIXd_D (d : Byte)
  | srl_atIXd_E (d : Byte)
  | srl_atIXd_H (d : Byte)
  | srl_atIXd_L (d : Byte)
  | srl_atIXd (d : Byte)
  | srl_atIXd_A (d : Byte)
  | bit_0_atIXd (d : Byte) (z : Fin 8)
  | bit_1_atIXd (d : Byte) (z : Fin 8)
  | bit_2_atIXd (d : Byte) (z : Fin 8)
  | bit_3_atIXd (d : Byte) (z : Fin 8)
  | bit_4_atIXd (d : Byte) (z : Fin 8)
  | bit_5_atIXd (d : Byte) (z : Fin 8)
  | bit_6_atIXd (d : Byte) (z : Fin 8)
  | bit_7_atIXd (d : Byte) (z : Fin 8)
  | res_0_atIXd_B (d : Byte)
  | res_0_atIXd_C (d : Byte)
  | res_0_atIXd_D (d : Byte)
  | res_0_atIXd_E (d : Byte)
  | res_0_atIXd_H (d : Byte)
  | res_0_atIXd_L (d : Byte)
  | res_0_atIXd (d : Byte)
  | res_0_atIXd_A (d : Byte)
  | res_1_atIXd_B (d : Byte)
  | res_1_atIXd_C (d : Byte)
  | res_1_atIXd_D (d : Byte)
  | res_1_atIXd_E (d : Byte)
  | res_1_atIXd_H (d : Byte)
  | res_1_atIXd_L (d : Byte)
  | res_1_atIXd (d : Byte)
  | res_1_atIXd_A (d : Byte)
  | res_2_atIXd_B (d : Byte)
  | res_2_atIXd_C (d : Byte)
  | res_2_atIXd_D (d : Byte)
  | res_2_atIXd_E (d : Byte)
  | res_2_atIXd_H (d : Byte)
  | res_2_atIXd_L (d : Byte)
  | res_2_atIXd (d : Byte)
  | res_2_atIXd_A (d : Byte)
  | res_3_atIXd_B (d : Byte)
  | res_3_atIXd_C (d : Byte)
  | res_3_atIXd_D (d : Byte)
  | res_3_atIXd_E (d : Byte)
  | res_3_atIXd_H (d : Byte)
  | res_3_atIXd_L (d : Byte)
  | res_3_atIXd (d : Byte)
  | res_3_atIXd_A (d : Byte)
  | res_4_atIXd_B (d : Byte)
  | res_4_atIXd_C (d : Byte)
  | res_4_atIXd_D (d : Byte)
  | res_4_atIXd_E (d : Byte)
  | res_4_atIXd_H (d : Byte)
  | res_4_atIXd_L (d : Byte)
  | res_4_atIXd (d : Byte)
  | res_4_atIXd_A (d : Byte)
  | res_5_atIXd_B (d : Byte)
  | res_5_atIXd_C (d : Byte)
  | res_5_atIXd_D (d : Byte)
  | res_5_atIXd_E (d : Byte)
  | res_5_atIXd_H (d : Byte)
  | res_5_atIXd_L (d : Byte)
  | res_5_atIXd (d : Byte)
  | res_5_atIXd_A (d : Byte)
  | res_6_atIXd_B (d : Byte)
  | res_6_atIXd_C (d : Byte)
  | res_6_atIXd_D (d : Byte)
  | res_6_atIXd_E (d : Byte)
  | res_6_atIXd_H (d : Byte)
  | res_6_atIXd_L (d : Byte)
  | res_6_atIXd (d : Byte)
  | res_6_atIXd_A (d : Byte)
  | res_7_atIXd_B (d : Byte)
  | res_7_atIXd_C (d : Byte)
  | res_7_atIXd_D (d : Byte)
  | res_7_atIXd_E (d : Byte)
  | res_7_atIXd_H (d : Byte)
  | res_7_atIXd_L (d : Byte)
  | res_7_atIXd (d : Byte)
  | res_7_atIXd_A (d : Byte)
  | set_0_atIXd_B (d : Byte)
  | set_0_atIXd_C (d : Byte)
  | set_0_atIXd_D (d : Byte)
  | set_0_atIXd_E (d : Byte)
  | set_0_atIXd_H (d : Byte)
  | set_0_atIXd_L (d : Byte)
  | set_0_atIXd (d : Byte)
  | set_0_atIXd_A (d : Byte)
  | set_1_atIXd_B (d : Byte)
  | set_1_atIXd_C (d : Byte)
  | set_1_atIXd_D (d : Byte)
  | set_1_atIXd_E (d : Byte)
  | set_1_atIXd_H (d : Byte)
  | set_1_atIXd_L (d : Byte)
  | set_1_atIXd (d : Byte)
  | set_1_atIXd_A (d : Byte)
  | set_2_atIXd_B (d : Byte)
  | set_2_atIXd_C (d : Byte)
  | set_2_atIXd_D (d : Byte)
  | set_2_atIXd_E (d : Byte)
  | set_2_atIXd_H (d : Byte)
  | set_2_atIXd_L (d : Byte)
  | set_2_atIXd (d : Byte)
  | set_2_atIXd_A (d : Byte)
  | set_3_atIXd_B (d : Byte)
  | set_3_atIXd_C (d : Byte)
  | set_3_atIXd_D (d : Byte)
  | set_3_atIXd_E (d : Byte)
  | set_3_atIXd_H (d : Byte)
  | set_3_atIXd_L (d : Byte)
  | set_3_atIXd (d : Byte)
  | set_3_atIXd_A (d : Byte)
  | set_4_atIXd_B (d : Byte)
  | set_4_atIXd_C (d : Byte)
  | set_4_atIXd_D (d : Byte)
  | set_4_atIXd_E (d : Byte)
  | set_4_atIXd_H (d : Byte)
  | set_4_atIXd_L (d : Byte)
  | set_4_atIXd (d : Byte)
  | set_4_atIXd_A (d : Byte)
  | set_5_atIXd_B (d : Byte)
  | set_5_atIXd_C (d : Byte)
  | set_5_atIXd_D (d : Byte)
  | set_5_atIXd_E (d : Byte)
  | set_5_atIXd_H (d : Byte)
  | set_5_atIXd_L (d : Byte)
  | set_5_atIXd (d : Byte)
  | set_5_atIXd_A (d : Byte)
  | set_6_atIXd_B (d : Byte)
  | set_6_atIXd_C (d : Byte)
  | set_6_atIXd_D (d : Byte)
  | set_6_atIXd_E (d : Byte)
  | set_6_atIXd_H (d : Byte)
  | set_6_atIXd_L (d : Byte)
  | set_6_atIXd (d : Byte)
  | set_6_atIXd_A (d : Byte)
  | set_7_atIXd_B (d : Byte)
  | set_7_atIXd_C (d : Byte)
  | set_7_atIXd_D (d : Byte)
  | set_7_atIXd_E (d : Byte)
  | set_7_atIXd_H (d : Byte)
  | set_7_atIXd_L (d : Byte)
  | set_7_atIXd (d : Byte)
  | set_7_atIXd_A (d : Byte)
  -- the FD CB forms (rule R119)
  | rlc_atIYd_B (d : Byte)
  | rlc_atIYd_C (d : Byte)
  | rlc_atIYd_D (d : Byte)
  | rlc_atIYd_E (d : Byte)
  | rlc_atIYd_H (d : Byte)
  | rlc_atIYd_L (d : Byte)
  | rlc_atIYd (d : Byte)
  | rlc_atIYd_A (d : Byte)
  | rrc_atIYd_B (d : Byte)
  | rrc_atIYd_C (d : Byte)
  | rrc_atIYd_D (d : Byte)
  | rrc_atIYd_E (d : Byte)
  | rrc_atIYd_H (d : Byte)
  | rrc_atIYd_L (d : Byte)
  | rrc_atIYd (d : Byte)
  | rrc_atIYd_A (d : Byte)
  | rl_atIYd_B (d : Byte)
  | rl_atIYd_C (d : Byte)
  | rl_atIYd_D (d : Byte)
  | rl_atIYd_E (d : Byte)
  | rl_atIYd_H (d : Byte)
  | rl_atIYd_L (d : Byte)
  | rl_atIYd (d : Byte)
  | rl_atIYd_A (d : Byte)
  | rr_atIYd_B (d : Byte)
  | rr_atIYd_C (d : Byte)
  | rr_atIYd_D (d : Byte)
  | rr_atIYd_E (d : Byte)
  | rr_atIYd_H (d : Byte)
  | rr_atIYd_L (d : Byte)
  | rr_atIYd (d : Byte)
  | rr_atIYd_A (d : Byte)
  | sla_atIYd_B (d : Byte)
  | sla_atIYd_C (d : Byte)
  | sla_atIYd_D (d : Byte)
  | sla_atIYd_E (d : Byte)
  | sla_atIYd_H (d : Byte)
  | sla_atIYd_L (d : Byte)
  | sla_atIYd (d : Byte)
  | sla_atIYd_A (d : Byte)
  | sra_atIYd_B (d : Byte)
  | sra_atIYd_C (d : Byte)
  | sra_atIYd_D (d : Byte)
  | sra_atIYd_E (d : Byte)
  | sra_atIYd_H (d : Byte)
  | sra_atIYd_L (d : Byte)
  | sra_atIYd (d : Byte)
  | sra_atIYd_A (d : Byte)
  | sll_atIYd_B (d : Byte)
  | sll_atIYd_C (d : Byte)
  | sll_atIYd_D (d : Byte)
  | sll_atIYd_E (d : Byte)
  | sll_atIYd_H (d : Byte)
  | sll_atIYd_L (d : Byte)
  | sll_atIYd (d : Byte)
  | sll_atIYd_A (d : Byte)
  | srl_atIYd_B (d : Byte)
  | srl_atIYd_C (d : Byte)
  | srl_atIYd_D (d : Byte)
  | srl_atIYd_E (d : Byte)
  | srl_atIYd_H (d : Byte)
  | srl_atIYd_L (d : Byte)
  | srl_atIYd (d : Byte)
  | srl_atIYd_A (d : Byte)
  | bit_0_atIYd (d : Byte) (z : Fin 8)
  | bit_1_atIYd (d : Byte) (z : Fin 8)
  | bit_2_atIYd (d : Byte) (z : Fin 8)
  | bit_3_atIYd (d : Byte) (z : Fin 8)
  | bit_4_atIYd (d : Byte) (z : Fin 8)
  | bit_5_atIYd (d : Byte) (z : Fin 8)
  | bit_6_atIYd (d : Byte) (z : Fin 8)
  | bit_7_atIYd (d : Byte) (z : Fin 8)
  | res_0_atIYd_B (d : Byte)
  | res_0_atIYd_C (d : Byte)
  | res_0_atIYd_D (d : Byte)
  | res_0_atIYd_E (d : Byte)
  | res_0_atIYd_H (d : Byte)
  | res_0_atIYd_L (d : Byte)
  | res_0_atIYd (d : Byte)
  | res_0_atIYd_A (d : Byte)
  | res_1_atIYd_B (d : Byte)
  | res_1_atIYd_C (d : Byte)
  | res_1_atIYd_D (d : Byte)
  | res_1_atIYd_E (d : Byte)
  | res_1_atIYd_H (d : Byte)
  | res_1_atIYd_L (d : Byte)
  | res_1_atIYd (d : Byte)
  | res_1_atIYd_A (d : Byte)
  | res_2_atIYd_B (d : Byte)
  | res_2_atIYd_C (d : Byte)
  | res_2_atIYd_D (d : Byte)
  | res_2_atIYd_E (d : Byte)
  | res_2_atIYd_H (d : Byte)
  | res_2_atIYd_L (d : Byte)
  | res_2_atIYd (d : Byte)
  | res_2_atIYd_A (d : Byte)
  | res_3_atIYd_B (d : Byte)
  | res_3_atIYd_C (d : Byte)
  | res_3_atIYd_D (d : Byte)
  | res_3_atIYd_E (d : Byte)
  | res_3_atIYd_H (d : Byte)
  | res_3_atIYd_L (d : Byte)
  | res_3_atIYd (d : Byte)
  | res_3_atIYd_A (d : Byte)
  | res_4_atIYd_B (d : Byte)
  | res_4_atIYd_C (d : Byte)
  | res_4_atIYd_D (d : Byte)
  | res_4_atIYd_E (d : Byte)
  | res_4_atIYd_H (d : Byte)
  | res_4_atIYd_L (d : Byte)
  | res_4_atIYd (d : Byte)
  | res_4_atIYd_A (d : Byte)
  | res_5_atIYd_B (d : Byte)
  | res_5_atIYd_C (d : Byte)
  | res_5_atIYd_D (d : Byte)
  | res_5_atIYd_E (d : Byte)
  | res_5_atIYd_H (d : Byte)
  | res_5_atIYd_L (d : Byte)
  | res_5_atIYd (d : Byte)
  | res_5_atIYd_A (d : Byte)
  | res_6_atIYd_B (d : Byte)
  | res_6_atIYd_C (d : Byte)
  | res_6_atIYd_D (d : Byte)
  | res_6_atIYd_E (d : Byte)
  | res_6_atIYd_H (d : Byte)
  | res_6_atIYd_L (d : Byte)
  | res_6_atIYd (d : Byte)
  | res_6_atIYd_A (d : Byte)
  | res_7_atIYd_B (d : Byte)
  | res_7_atIYd_C (d : Byte)
  | res_7_atIYd_D (d : Byte)
  | res_7_atIYd_E (d : Byte)
  | res_7_atIYd_H (d : Byte)
  | res_7_atIYd_L (d : Byte)
  | res_7_atIYd (d : Byte)
  | res_7_atIYd_A (d : Byte)
  | set_0_atIYd_B (d : Byte)
  | set_0_atIYd_C (d : Byte)
  | set_0_atIYd_D (d : Byte)
  | set_0_atIYd_E (d : Byte)
  | set_0_atIYd_H (d : Byte)
  | set_0_atIYd_L (d : Byte)
  | set_0_atIYd (d : Byte)
  | set_0_atIYd_A (d : Byte)
  | set_1_atIYd_B (d : Byte)
  | set_1_atIYd_C (d : Byte)
  | set_1_atIYd_D (d : Byte)
  | set_1_atIYd_E (d : Byte)
  | set_1_atIYd_H (d : Byte)
  | set_1_atIYd_L (d : Byte)
  | set_1_atIYd (d : Byte)
  | set_1_atIYd_A (d : Byte)
  | set_2_atIYd_B (d : Byte)
  | set_2_atIYd_C (d : Byte)
  | set_2_atIYd_D (d : Byte)
  | set_2_atIYd_E (d : Byte)
  | set_2_atIYd_H (d : Byte)
  | set_2_atIYd_L (d : Byte)
  | set_2_atIYd (d : Byte)
  | set_2_atIYd_A (d : Byte)
  | set_3_atIYd_B (d : Byte)
  | set_3_atIYd_C (d : Byte)
  | set_3_atIYd_D (d : Byte)
  | set_3_atIYd_E (d : Byte)
  | set_3_atIYd_H (d : Byte)
  | set_3_atIYd_L (d : Byte)
  | set_3_atIYd (d : Byte)
  | set_3_atIYd_A (d : Byte)
  | set_4_atIYd_B (d : Byte)
  | set_4_atIYd_C (d : Byte)
  | set_4_atIYd_D (d : Byte)
  | set_4_atIYd_E (d : Byte)
  | set_4_atIYd_H (d : Byte)
  | set_4_atIYd_L (d : Byte)
  | set_4_atIYd (d : Byte)
  | set_4_atIYd_A (d : Byte)
  | set_5_atIYd_B (d : Byte)
  | set_5_atIYd_C (d : Byte)
  | set_5_atIYd_D (d : Byte)
  | set_5_atIYd_E (d : Byte)
  | set_5_atIYd_H (d : Byte)
  | set_5_atIYd_L (d : Byte)
  | set_5_atIYd (d : Byte)
  | set_5_atIYd_A (d : Byte)
  | set_6_atIYd_B (d : Byte)
  | set_6_atIYd_C (d : Byte)
  | set_6_atIYd_D (d : Byte)
  | set_6_atIYd_E (d : Byte)
  | set_6_atIYd_H (d : Byte)
  | set_6_atIYd_L (d : Byte)
  | set_6_atIYd (d : Byte)
  | set_6_atIYd_A (d : Byte)
  | set_7_atIYd_B (d : Byte)
  | set_7_atIYd_C (d : Byte)
  | set_7_atIYd_D (d : Byte)
  | set_7_atIYd_E (d : Byte)
  | set_7_atIYd_H (d : Byte)
  | set_7_atIYd_L (d : Byte)
  | set_7_atIYd (d : Byte)
  | set_7_atIYd_A (d : Byte)
deriving DecidableEq, Repr

end Sys2Proof
end

