-- ==== Sys2Proof/WellFormed.lean ====
section
/-! DEFINITION. Which terms of `Instr` stand for an encoding: the checks on the fields that a mirrored
or no-op slot carries (30_encoding.md rule R116). -/

namespace Sys2Proof

/-- The operation byte `op` is a no-op slot of the ED table (48_cpu_control.md rule R435): x = 0, x = 3,
x = 1 with z = 7 and y = 6 or 7, or x = 2 with y < 4 or z > 3. -/
def isNoniSlot (op : Byte) : Bool :=
  let x := op.toNat / 64
  let y := op.toNat / 8 % 8
  let z := op.toNat % 8
  x == 0 || x == 3 || (x == 1 && z == 7 && decide (6 ≤ y)) || (x == 2 && (decide (y < 4) || decide (3 < z)))

/-- The y fields of RETN (30_encoding.md rule R116): every one but RETI's. -/
def isRetnField (y : Fin 8) : Bool := y.val != 1

/-- The mode an IM slot selects (30_encoding.md rule R107). -/
def imOfField (y : Fin 8) : Nat :=
  match y.val with
  | 2 | 6 => 1
  | 3 | 7 => 2
  | _ => 0

/-- An ED instruction's fields name a slot of its own. -/
def EdOp.wellFormed : EdOp → Bool
  | .retn y => isRetnField y
  | .noni op => isNoniSlot op
  | _ => true

/-- An instruction's fields name a slot of its own: the check is on the mirrored and no-op slots only,
every other constructor takes every operand value. -/
def Instr.wellFormed : Instr → Bool
  | .retn y => isRetnField y
  | .im_0 y => imOfField y == 0
  | .im_1 y => imOfField y == 1
  | .im_2 y => imOfField y == 2
  | .noni op => isNoniSlot op
  | .prefixIX_ED e => e.wellFormed
  | .prefixIY_ED e => e.wellFormed
  | _ => true

end Sys2Proof
end

