-- ==== Sys2Proof/Decode.lean ====
section
/-! DEFINITION. The decoder (30_encoding.md rules R101 to R122), total on any bytes, written from the
x/y/z/p/q fields and the operand tables; after it the encoder, written row by row from
spec/opcode_table.json. -/

namespace Sys2Proof

open Sys2Proof.Machine (pair hiByte loByte)

/-! ### Choosing from a row of a table -/

/-- One of the seven entries of table `r` without (HL). -/
def Reg8.pick {α : Type} (k : Reg8) (b c d e h l a : α) : α :=
  match k with
  | .b => b | .c => c | .d => d | .e => e | .h => h | .l => l | .a => a

/-- One of the four entries of table `rp`. -/
def Rp.pick {α : Type} (p : Rp) (bc de hl sp : α) : α :=
  match p with
  | .bc => bc | .de => de | .hl => hl | .sp => sp

/-- One of the four entries of table `rp2`. -/
def Rp2.pick {α : Type} (p : Rp2) (bc de hl af : α) : α :=
  match p with
  | .bc => bc | .de => de | .hl => hl | .af => af

/-- One of the eight entries of table `cc`. -/
def Cond.pick {α : Type} (k : Cond) (nz z nc c po pe p m : α) : α :=
  match k with
  | .nz => nz | .z => z | .nc => nc | .c => c | .po => po | .pe => pe | .p => p | .m => m

/-- One of the eight entries of table `alu`. -/
def AluOp.pick {α : Type} (o : AluOp) (add adc sub sbc and xor or cp : α) : α :=
  match o with
  | .add => add | .adc => adc | .sub => sub | .sbc => sbc | .and => and | .xor => xor | .or => or | .cp => cp

/-- One of the eight entries of table `rot`. -/
def RotOp.pick {α : Type} (o : RotOp) (rlc rrc rl rr sla sra sll srl : α) : α :=
  match o with
  | .rlc => rlc | .rrc => rrc | .rl => rl | .rr => rr | .sla => sla | .sra => sra | .sll => sll | .srl => srl

/-- One of eight entries, by a 3-bit field. -/
def pick8 {α : Type} (k : Fin 8) (x0 x1 x2 x3 x4 x5 x6 x7 : α) : α :=
  match k.val with
  | 0 => x0 | 1 => x1 | 2 => x2 | 3 => x3 | 4 => x4 | 5 => x5 | 6 => x6 | _ => x7

/-- The entry for HL, IX or IY. -/
def IndexMode.pick {α : Type} (m : IndexMode) (hl ix iy : α) : α :=
  match m with
  | .hl => hl | .ix => ix | .iy => iy

/-- The entry for IX or IY. -/
def IdxReg.pick {α : Type} (m : IdxReg) (ix iy : α) : α :=
  match m with
  | .ix => ix | .iy => iy

/-- The entry for (HL), or for (IX+d) or (IY+d) with its displacement. -/
def MemOp.pick {α : Type} (o : MemOp) (hl : α) (ix iy : Byte → α) : α :=
  match o with
  | .atHL => hl
  | .atIdx .ix d => ix d
  | .atIdx .iy d => iy d


/-! ### Fields of an opcode byte (30_encoding.md rule R101) -/

/-- x = bits 7-6. -/
def opX (op : Byte) : Nat := op.toNat / 64
/-- y = bits 5-3. -/
def opY (op : Byte) : Nat := op.toNat / 8 % 8
/-- z = bits 2-0. -/
def opZ (op : Byte) : Nat := op.toNat % 8
/-- p = y >> 1. -/
def opP (op : Byte) : Nat := opY op / 2
/-- q = y & 1. -/
def opQ (op : Byte) : Nat := opY op % 2

/-- Table `r` at an index other than 6. -/
def regOf (k : Nat) : Reg8 :=
  match k with
  | 0 => .b | 1 => .c | 2 => .d | 3 => .e | 4 => .h | 5 => .l | _ => .a

/-- Table `r` as the destination of an indexed CB form: index 6 names no register. -/
def regOrNone (k : Nat) : Option Reg8 := if k = 6 then none else some (regOf k)

/-- Table `rp`. -/
def rpOf (p : Nat) : Rp :=
  match p with
  | 0 => .bc | 1 => .de | 2 => .hl | _ => .sp

/-- Table `rp2`. -/
def rp2Of (p : Nat) : Rp2 :=
  match p with
  | 0 => .bc | 1 => .de | 2 => .hl | _ => .af

/-- Table `cc`. -/
def condOf (y : Nat) : Cond :=
  match y with
  | 0 => .nz | 1 => .z | 2 => .nc | 3 => .c | 4 => .po | 5 => .pe | 6 => .p | _ => .m

/-- Table `alu`. -/
def aluOf (y : Nat) : AluOp :=
  match y with
  | 0 => .add | 1 => .adc | 2 => .sub | 3 => .sbc | 4 => .and | 5 => .xor | 6 => .or | _ => .cp

/-- Table `rot`. -/
def rotOf (y : Nat) : RotOp :=
  match y with
  | 0 => .rlc | 1 => .rrc | 2 => .rl | 3 => .rr | 4 => .sla | 5 => .sra | 6 => .sll | _ => .srl

/-- The family of a column of table `bli`. -/
def blockFamilyOf (z : Nat) : BlockFamily :=
  match z with
  | 0 => .ld | 1 => .cp | 2 => .inp | _ => .outp

/-- A 3-bit field. -/
def fieldOf (y : Nat) : Fin 8 := Fin.ofNat 8 y

/-! ### The tables -/

/-- The index register of an index mode other than HL. -/
def IndexMode.index (m : IndexMode) : Option IdxReg :=
  match m with
  | .hl => none
  | .ix => some .ix
  | .iy => some .iy

/-- The memory operand "(HL)" names under an index mode (30_encoding.md rule R117 item 1). -/
def memOperand (m : IndexMode) (d : Byte) : MemOp :=
  match m.index with
  | none => .atHL
  | some x => .atIdx x d

/-- The CB table (30_encoding.md rule R115). -/
def decodeCB (op : Byte) : Op :=
  let y := opY op
  let z := opZ op
  match opX op with
  | 0 => if z = 6 then .rotHL (rotOf y) else .rotReg (rotOf y) (regOf z)
  | 1 => if z = 6 then .bitHL (fieldOf y) else .bitReg (fieldOf y) (regOf z)
  | 2 => if z = 6 then .resHL (fieldOf y) else .resReg (fieldOf y) (regOf z)
  | _ => if z = 6 then .setHL (fieldOf y) else .setReg (fieldOf y) (regOf z)

/-- The operation byte of an `XCB4` instruction (30_encoding.md rule R119). -/
def decodeXCB (m : IdxReg) (d op : Byte) : Op :=
  let y := opY op
  let z := opZ op
  match opX op with
  | 0 => .rotIdx m (rotOf y) (regOrNone z) d
  | 1 => .bitIdx m (fieldOf y) (fieldOf z) d
  | 2 => .resIdx m (fieldOf y) (regOrNone z) d
  | _ => .setIdx m (fieldOf y) (regOrNone z) d

/-- The ED table (30_encoding.md rule R116). -/
def decodeED (op : Byte) (nn : Word) : EdOp :=
  let y := opY op
  let z := opZ op
  match opX op with
  | 1 =>
    match z with
    | 0 => if y = 6 then .inF else .inReg (regOf y)
    | 1 => if y = 6 then .outZero else .outReg (regOf y)
    | 2 => if opQ op = 0 then .sbcHL (rpOf (opP op)) else .adcHL (rpOf (opP op))
    | 3 => if opQ op = 0 then .store (rpOf (opP op)) nn else .load (rpOf (opP op)) nn
    | 4 => .neg (fieldOf y)
    | 5 => if y = 1 then .reti else .retn (fieldOf y)
    | 6 => .im (fieldOf y)
    | _ =>
      match y with
      | 0 => .ldIA
      | 1 => .ldRA
      | 2 => .ldAI
      | 3 => .ldAR
      | 4 => .rrd
      | 5 => .rld
      | _ => .noni op
  | 2 => if z < 4 ∧ 4 ≤ y then .block (blockFamilyOf z) (opQ op == 0) (decide (6 ≤ y)) else .noni op
  | _ => .noni op

/-- Main table, x = 0 (30_encoding.md rule R111): `o` is the "(HL)" operand, `n` its immediate. -/
def decodeMain0 (m : IndexMode) (op : Byte) (o : MemOp) (b1 n : Byte) (nn : Word) : Op :=
  let y := opY op
  match opZ op with
  | 0 =>
    match y with
    | 0 => .nop
    | 1 => .exAf
    | 2 => .djnz b1
    | 3 => .jr b1
    | _ => Op.jrCc (Fin.ofNat 4 (y - 4)) b1
  | 1 => if opQ op = 0 then .ld16Imm m (rpOf (opP op)) nn else .add16 m (rpOf (opP op))
  | 2 =>
    match y with
    | 0 => .ldAToBC
    | 1 => .ldAFromBC
    | 2 => .ldAToDE
    | 3 => .ldAFromDE
    | 4 => .ld16To m nn
    | 5 => .ld16From m nn
    | 6 => .ldAToNn nn
    | _ => .ldAFromNn nn
  | 3 => if opQ op = 0 then .inc16 m (rpOf (opP op)) else .dec16 m (rpOf (opP op))
  | 4 => if y = 6 then .incMem o else .incReg m (regOf y)
  | 5 => if y = 6 then .decMem o else .decReg m (regOf y)
  | 6 => if y = 6 then .ldToImm o n else .ldImm m (regOf y) b1
  | _ => pick8 (fieldOf y) .rlca .rrca .rla .rra .daa .cpl .scf .ccf

/-- Main table, x = 1 (30_encoding.md rule R112). -/
def decodeMain1 (m : IndexMode) (op : Byte) (o : MemOp) : Op :=
  let y := opY op
  let z := opZ op
  if z = 6 then (if y = 6 then .halt else .ldFrom o (regOf y))
  else if y = 6 then .ldTo o (regOf z)
  else .ld m (regOf y) (regOf z)

/-- Main table, x = 2 (30_encoding.md rule R113). -/
def decodeMain2 (m : IndexMode) (op : Byte) (o : MemOp) : Op :=
  let z := opZ op
  if z = 6 then .aluMem (aluOf (opY op)) o else .aluReg m (aluOf (opY op)) (regOf z)

/-- A CB byte under an index mode: the CB table, or the `XCB4` form (30_encoding.md rules R115, R119). -/
def decodePrefixedCB (m : IndexMode) (b1 b2 : Byte) : Op :=
  match m.index with
  | none => decodeCB b1
  | some x => decodeXCB x b1 b2

/-- An ED table entry under an index mode (48_cpu_control.md rule R438). -/
def edUnder (m : IndexMode) (e : EdOp) : Op :=
  match m.index with
  | none => .ed e
  | some x => .edUnder x e

/-- Main table, x = 3 (30_encoding.md rule R114), with the prefixes CB, DD, ED and FD (rule R118). -/
def decodeMain3 (m : IndexMode) (op b1 b2 b3 : Byte) : Op :=
  let y := opY op
  let nn := pair b2 b1
  match opZ op with
  | 0 => .retCc (condOf y)
  | 1 =>
    if opQ op = 0 then .pop m (rp2Of (opP op))
    else
      match opP op with
      | 0 => .ret
      | 1 => .exx
      | 2 => .jpReg m
      | _ => .ldSp m
  | 2 => .jpCc (condOf y) nn
  | 3 =>
    match y with
    | 0 => .jp nn
    | 1 => decodePrefixedCB m b1 b2
    | 2 => .outA b1
    | 3 => .inA b1
    | 4 => .exSp m
    | 5 => .exDeHl
    | 6 => .di
    | _ => .ei
  | 4 => .callCc (condOf y) nn
  | 5 =>
    if opQ op = 0 then .push m (rp2Of (opP op))
    else
      match opP op with
      | 0 => .call nn
      | 1 => .index .ix m
      | 2 => edUnder m (decodeED b1 (pair b3 b2))
      | _ => .index .iy m
  | 6 => .aluImm (aluOf y) b1
  | _ => .rst (fieldOf y)

/-- The table entry at opcode byte `op` with the bytes that follow it, under index mode `m`
(30_encoding.md rules R111 to R119). Bytes past the instruction's length are not looked at. -/
def decodeOpAt (m : IndexMode) (op b1 b2 b3 : Byte) : Op :=
  match opX op with
  | 0 => decodeMain0 m op (memOperand m b1) b1 (m.pick b1 b2 b2) (pair b2 b1)
  | 1 => decodeMain1 m op (memOperand m b1)
  | 2 => decodeMain2 m op (memOperand m b1)
  | _ => decodeMain3 m op b1 b2 b3

/-- The table entry the fetched bytes stand for; a byte that is not there counts as 0 (log entry 12). -/
def decodeOp (m : IndexMode) (bs : List Byte) : Op :=
  decodeOpAt m (bs.getD 0 0) (bs.getD 1 0) (bs.getD 2 0) (bs.getD 3 0)

/-! ### Lengths (30_encoding.md rule R122) -/

/-- The main-table entry has a "(HL)" operand that a prefix turns into (m+d) (rule R117 item 1). -/
def hasMemOperand (op : Byte) : Bool :=
  let x := opX op
  let y := opY op
  let z := opZ op
  (x == 0 && y == 6 && (z == 4 || z == 5 || z == 6)) ||
    (x == 1 && (y == 6 || z == 6) && !(y == 6 && z == 6)) || (x == 2 && z == 6)

/-- The immediate bytes of a main-table entry other than the prefixes. -/
def immediateCount (op : Byte) : Nat :=
  let y := opY op
  match opX op, opZ op with
  | 0, 0 => if 2 ≤ y then 1 else 0
  | 0, 1 => if opQ op = 0 then 2 else 0
  | 0, 2 => if 4 ≤ y then 2 else 0
  | 0, 6 => 1
  | 3, 2 => 2
  | 3, 3 => if y = 0 then 2 else if y = 2 ∨ y = 3 then 1 else 0
  | 3, 4 => 2
  | 3, 5 => if y = 1 then 2 else 0
  | 3, 6 => 1
  | _, _ => 0

/-- The operand bytes after a main-table opcode under an index mode; CB under IX or IY takes d and the
operation byte (rule R119). -/
def operandCount (m : IndexMode) (op : Byte) : Nat :=
  match m.index with
  | none => immediateCount op
  | some _ => if op = 0xCB then 2 else immediateCount op + (if hasMemOperand op then 1 else 0)

/-- The operand bytes after ED op. -/
def edOperandCount (op : Byte) : Nat := if opX op = 1 ∧ opZ op = 3 then 2 else 0

/-- The bytes of the instruction that starts with `op` and `b1` under an index mode, its DD or FD
prefix not counted. -/
def instrLength (m : IndexMode) (op b1 : Byte) : Nat :=
  if op = 0xED then 2 + edOperandCount b1
  else if op = 0xCB ∧ m = .hl then 2
  else 1 + operandCount m op


noncomputable section

/-! ### The instruction of an operand combination, family by family -/

/-- LD r,r' with the plain row (40_load8.md rule R200). -/
def ldRegInstr (y z : Reg8) : Instr :=
  y.pick
    (z.pick .ld_B_B .ld_B_C .ld_B_D .ld_B_E .ld_B_H .ld_B_L .ld_B_A)
    (z.pick .ld_C_B .ld_C_C .ld_C_D .ld_C_E .ld_C_H .ld_C_L .ld_C_A)
    (z.pick .ld_D_B .ld_D_C .ld_D_D .ld_D_E .ld_D_H .ld_D_L .ld_D_A)
    (z.pick .ld_E_B .ld_E_C .ld_E_D .ld_E_E .ld_E_H .ld_E_L .ld_E_A)
    (z.pick .ld_H_B .ld_H_C .ld_H_D .ld_H_E .ld_H_H .ld_H_L .ld_H_A)
    (z.pick .ld_L_B .ld_L_C .ld_L_D .ld_L_E .ld_L_H .ld_L_L .ld_L_A)
    (z.pick .ld_A_B .ld_A_C .ld_A_D .ld_A_E .ld_A_H .ld_A_L .ld_A_A)

/-- LD r,r' under a DD prefix: H and L name IXH and IXL (40_load8.md rule R214). -/
def ldRegIXInstr (y z : Reg8) : Instr :=
  y.pick
    (z.pick .ld_B_B .ld_B_C .ld_B_D .ld_B_E .ld_B_IXH .ld_B_IXL .ld_B_A)
    (z.pick .ld_C_B .ld_C_C .ld_C_D .ld_C_E .ld_C_IXH .ld_C_IXL .ld_C_A)
    (z.pick .ld_D_B .ld_D_C .ld_D_D .ld_D_E .ld_D_IXH .ld_D_IXL .ld_D_A)
    (z.pick .ld_E_B .ld_E_C .ld_E_D .ld_E_E .ld_E_IXH .ld_E_IXL .ld_E_A)
    (z.pick .ld_IXH_B .ld_IXH_C .ld_IXH_D .ld_IXH_E .ld_IXH_IXH .ld_IXH_IXL .ld_IXH_A)
    (z.pick .ld_IXL_B .ld_IXL_C .ld_IXL_D .ld_IXL_E .ld_IXL_IXH .ld_IXL_IXL .ld_IXL_A)
    (z.pick .ld_A_B .ld_A_C .ld_A_D .ld_A_E .ld_A_IXH .ld_A_IXL .ld_A_A)

/-- LD r,r' under an FD prefix: H and L name IYH and IYL (40_load8.md rule R214). -/
def ldRegIYInstr (y z : Reg8) : Instr :=
  y.pick
    (z.pick .ld_B_B .ld_B_C .ld_B_D .ld_B_E .ld_B_IYH .ld_B_IYL .ld_B_A)
    (z.pick .ld_C_B .ld_C_C .ld_C_D .ld_C_E .ld_C_IYH .ld_C_IYL .ld_C_A)
    (z.pick .ld_D_B .ld_D_C .ld_D_D .ld_D_E .ld_D_IYH .ld_D_IYL .ld_D_A)
    (z.pick .ld_E_B .ld_E_C .ld_E_D .ld_E_E .ld_E_IYH .ld_E_IYL .ld_E_A)
    (z.pick .ld_IYH_B .ld_IYH_C .ld_IYH_D .ld_IYH_E .ld_IYH_IYH .ld_IYH_IYL .ld_IYH_A)
    (z.pick .ld_IYL_B .ld_IYL_C .ld_IYL_D .ld_IYL_E .ld_IYL_IYH .ld_IYL_IYL .ld_IYL_A)
    (z.pick .ld_A_B .ld_A_C .ld_A_D .ld_A_E .ld_A_IYH .ld_A_IYL .ld_A_A)

/-- LD r,r' under an index mode. -/
def ldRowInstr (m : IndexMode) (y z : Reg8) : Instr :=
  m.pick (ldRegInstr y z) (ldRegIXInstr y z) (ldRegIYInstr y z)

/-- LD r,n (40_load8.md rules R201, R215). -/
def ldImmInstr (m : IndexMode) (y : Reg8) (n : Byte) : Instr :=
  m.pick
    (y.pick (.ld_B_n n) (.ld_C_n n) (.ld_D_n n) (.ld_E_n n) (.ld_H_n n) (.ld_L_n n) (.ld_A_n n))
    (y.pick (.ld_B_n n) (.ld_C_n n) (.ld_D_n n) (.ld_E_n n) (.ld_IXH_n n) (.ld_IXL_n n) (.ld_A_n n))
    (y.pick (.ld_B_n n) (.ld_C_n n) (.ld_D_n n) (.ld_E_n n) (.ld_IYH_n n) (.ld_IYL_n n) (.ld_A_n n))

/-- LD r,(HL), LD r,(IX+d), LD r,(IY+d) (40_load8.md rules R202, R203). -/
def ldFromInstr (o : MemOp) (y : Reg8) : Instr :=
  o.pick
    (y.pick .ld_B_atHL .ld_C_atHL .ld_D_atHL .ld_E_atHL .ld_H_atHL .ld_L_atHL .ld_A_atHL)
    (fun d => y.pick (.ld_B_atIXd d) (.ld_C_atIXd d) (.ld_D_atIXd d) (.ld_E_atIXd d) (.ld_H_atIXd d) (.ld_L_atIXd d) (.ld_A_atIXd d))
    (fun d => y.pick (.ld_B_atIYd d) (.ld_C_atIYd d) (.ld_D_atIYd d) (.ld_E_atIYd d) (.ld_H_atIYd d) (.ld_L_atIYd d) (.ld_A_atIYd d))

/-- LD (HL),r, LD (IX+d),r, LD (IY+d),r (40_load8.md rules R204, R205). -/
def ldToInstr (o : MemOp) (y : Reg8) : Instr :=
  o.pick
    (y.pick .ld_atHL_B .ld_atHL_C .ld_atHL_D .ld_atHL_E .ld_atHL_H .ld_atHL_L .ld_atHL_A)
    (fun d => y.pick (.ld_atIXd_B d) (.ld_atIXd_C d) (.ld_atIXd_D d) (.ld_atIXd_E d) (.ld_atIXd_H d) (.ld_atIXd_L d) (.ld_atIXd_A d))
    (fun d => y.pick (.ld_atIYd_B d) (.ld_atIYd_C d) (.ld_atIYd_D d) (.ld_atIYd_E d) (.ld_atIYd_H d) (.ld_atIYd_L d) (.ld_atIYd_A d))

/-- LD (HL),n, LD (IX+d),n, LD (IY+d),n (40_load8.md rules R206, R207). -/
def ldToImmInstr (o : MemOp) (n : Byte) : Instr :=
  o.pick (.ld_atHL_n n) (fun d => (.ld_atIXd_n d n)) (fun d => (.ld_atIYd_n d n))

/-- The ALU operations on a register (42_alu8.md rules R266 to R273). -/
def aluRegInstr (o : AluOp) (z : Reg8) : Instr :=
  o.pick
    (z.pick .add_A_B .add_A_C .add_A_D .add_A_E .add_A_H .add_A_L .add_A_A)
    (z.pick .adc_A_B .adc_A_C .adc_A_D .adc_A_E .adc_A_H .adc_A_L .adc_A_A)
    (z.pick .sub_B .sub_C .sub_D .sub_E .sub_H .sub_L .sub_A)
    (z.pick .sbc_A_B .sbc_A_C .sbc_A_D .sbc_A_E .sbc_A_H .sbc_A_L .sbc_A_A)
    (z.pick .and_B .and_C .and_D .and_E .and_H .and_L .and_A)
    (z.pick .xor_B .xor_C .xor_D .xor_E .xor_H .xor_L .xor_A)
    (z.pick .or_B .or_C .or_D .or_E .or_H .or_L .or_A)
    (z.pick .cp_B .cp_C .cp_D .cp_E .cp_H .cp_L .cp_A)

/-- The ALU operations on a register under DD (42_alu8.md rules R266 to R273). -/
def aluRegIXInstr (o : AluOp) (z : Reg8) : Instr :=
  o.pick
    (z.pick .add_A_B .add_A_C .add_A_D .add_A_E .add_A_IXH .add_A_IXL .add_A_A)
    (z.pick .adc_A_B .adc_A_C .adc_A_D .adc_A_E .adc_A_IXH .adc_A_IXL .adc_A_A)
    (z.pick .sub_B .sub_C .sub_D .sub_E .sub_IXH .sub_IXL .sub_A)
    (z.pick .sbc_A_B .sbc_A_C .sbc_A_D .sbc_A_E .sbc_A_IXH .sbc_A_IXL .sbc_A_A)
    (z.pick .and_B .and_C .and_D .and_E .and_IXH .and_IXL .and_A)
    (z.pick .xor_B .xor_C .xor_D .xor_E .xor_IXH .xor_IXL .xor_A)
    (z.pick .or_B .or_C .or_D .or_E .or_IXH .or_IXL .or_A)
    (z.pick .cp_B .cp_C .cp_D .cp_E .cp_IXH .cp_IXL .cp_A)

/-- The ALU operations on a register under FD (42_alu8.md rules R266 to R273). -/
def aluRegIYInstr (o : AluOp) (z : Reg8) : Instr :=
  o.pick
    (z.pick .add_A_B .add_A_C .add_A_D .add_A_E .add_A_IYH .add_A_IYL .add_A_A)
    (z.pick .adc_A_B .adc_A_C .adc_A_D .adc_A_E .adc_A_IYH .adc_A_IYL .adc_A_A)
    (z.pick .sub_B .sub_C .sub_D .sub_E .sub_IYH .sub_IYL .sub_A)
    (z.pick .sbc_A_B .sbc_A_C .sbc_A_D .sbc_A_E .sbc_A_IYH .sbc_A_IYL .sbc_A_A)
    (z.pick .and_B .and_C .and_D .and_E .and_IYH .and_IYL .and_A)
    (z.pick .xor_B .xor_C .xor_D .xor_E .xor_IYH .xor_IYL .xor_A)
    (z.pick .or_B .or_C .or_D .or_E .or_IYH .or_IYL .or_A)
    (z.pick .cp_B .cp_C .cp_D .cp_E .cp_IYH .cp_IYL .cp_A)

/-- The ALU operations on a register under an index mode (30_encoding.md rule R126). -/
def aluRowInstr (m : IndexMode) (o : AluOp) (z : Reg8) : Instr :=
  m.pick (aluRegInstr o z) (aluRegIXInstr o z) (aluRegIYInstr o z)

/-- The ALU operations on a memory operand (30_encoding.md rule R126). -/
def aluMemInstr (p : AluOp) (o : MemOp) : Instr :=
  o.pick
    (p.pick .add_A_atHL .adc_A_atHL .sub_atHL .sbc_A_atHL .and_atHL .xor_atHL .or_atHL .cp_atHL)
    (fun d => p.pick (.add_A_atIXd d) (.adc_A_atIXd d) (.sub_atIXd d) (.sbc_A_atIXd d) (.and_atIXd d) (.xor_atIXd d) (.or_atIXd d) (.cp_atIXd d))
    (fun d => p.pick (.add_A_atIYd d) (.adc_A_atIYd d) (.sub_atIYd d) (.sbc_A_atIYd d) (.and_atIYd d) (.xor_atIYd d) (.or_atIYd d) (.cp_atIYd d))

/-- The ALU operations on an immediate (30_encoding.md rule R126). -/
def aluImmInstr (p : AluOp) (n : Byte) : Instr :=
  p.pick (.add_A_n n) (.adc_A_n n) (.sub_n n) (.sbc_A_n n) (.and_n n) (.xor_n n) (.or_n n) (.cp_n n)

/-- INC r (42_alu8.md rule R274). -/
def incRowInstr (m : IndexMode) (y : Reg8) : Instr :=
  m.pick
    (y.pick .inc_B .inc_C .inc_D .inc_E .inc_H .inc_L .inc_A)
    (y.pick .inc_B .inc_C .inc_D .inc_E .inc_IXH .inc_IXL .inc_A)
    (y.pick .inc_B .inc_C .inc_D .inc_E .inc_IYH .inc_IYL .inc_A)

/-- INC (HL), (IX+d), (IY+d) (42_alu8.md rule R275). -/
def incMemInstr (o : MemOp) : Instr :=
  o.pick .inc_atHL (fun d => (.inc_atIXd d)) (fun d => (.inc_atIYd d))

/-- DEC r (42_alu8.md rule R276). -/
def decRowInstr (m : IndexMode) (y : Reg8) : Instr :=
  m.pick
    (y.pick .dec_B .dec_C .dec_D .dec_E .dec_H .dec_L .dec_A)
    (y.pick .dec_B .dec_C .dec_D .dec_E .dec_IXH .dec_IXL .dec_A)
    (y.pick .dec_B .dec_C .dec_D .dec_E .dec_IYH .dec_IYL .dec_A)

/-- DEC (HL), (IX+d), (IY+d) (42_alu8.md rule R277). -/
def decMemInstr (o : MemOp) : Instr :=
  o.pick .dec_atHL (fun d => (.dec_atIXd d)) (fun d => (.dec_atIYd d))

/-- LD rp,nn (41_load16_exchange.md rules R230, R231). -/
def ld16ImmInstr (m : IndexMode) (p : Rp) (nn : Word) : Instr :=
  m.pick
    (p.pick (.ld_BC_nn nn) (.ld_DE_nn nn) (.ld_HL_nn nn) (.ld_SP_nn nn))
    (p.pick (.ld_BC_nn nn) (.ld_DE_nn nn) (.ld_IX_nn nn) (.ld_SP_nn nn))
    (p.pick (.ld_BC_nn nn) (.ld_DE_nn nn) (.ld_IY_nn nn) (.ld_SP_nn nn))

/-- ADD HL,rp, ADD IX,rp, ADD IY,rp (43_alu16.md rules R303, R304). -/
def add16Instr (m : IndexMode) (p : Rp) : Instr :=
  m.pick
    (p.pick .add_HL_BC .add_HL_DE .add_HL_HL .add_HL_SP)
    (p.pick .add_IX_BC .add_IX_DE .add_IX_IX .add_IX_SP)
    (p.pick .add_IY_BC .add_IY_DE .add_IY_IY .add_IY_SP)

/-- INC rp, INC IX, INC IY (43_alu16.md rules R307, R309). -/
def inc16Instr (m : IndexMode) (p : Rp) : Instr :=
  m.pick
    (p.pick .inc_BC .inc_DE .inc_HL .inc_SP)
    (p.pick .inc_BC .inc_DE .inc_IX .inc_SP)
    (p.pick .inc_BC .inc_DE .inc_IY .inc_SP)

/-- DEC rp, DEC IX, DEC IY (43_alu16.md rules R308, R310). -/
def dec16Instr (m : IndexMode) (p : Rp) : Instr :=
  m.pick
    (p.pick .dec_BC .dec_DE .dec_HL .dec_SP)
    (p.pick .dec_BC .dec_DE .dec_IX .dec_SP)
    (p.pick .dec_BC .dec_DE .dec_IY .dec_SP)

/-- PUSH rp2, PUSH IX, PUSH IY (41_load16_exchange.md rules R240, R241). -/
def pushInstr (m : IndexMode) (p : Rp2) : Instr :=
  m.pick
    (p.pick .push_BC .push_DE .push_HL .push_AF)
    (p.pick .push_BC .push_DE .push_IX .push_AF)
    (p.pick .push_BC .push_DE .push_IY .push_AF)

/-- POP rp2, POP IX, POP IY (41_load16_exchange.md rules R242, R243). -/
def popInstr (m : IndexMode) (p : Rp2) : Instr :=
  m.pick
    (p.pick .pop_BC .pop_DE .pop_HL .pop_AF)
    (p.pick .pop_BC .pop_DE .pop_IX .pop_AF)
    (p.pick .pop_BC .pop_DE .pop_IY .pop_AF)

/-- LD HL,(nn), LD IX,(nn), LD IY,(nn) (41_load16_exchange.md rules R232, R233). -/
def load16Instr (m : IndexMode) (nn : Word) : Instr :=
  m.pick (.ld_HL_atNn nn) (.ld_IX_atNn nn) (.ld_IY_atNn nn)

/-- LD (nn),HL, LD (nn),IX, LD (nn),IY (41_load16_exchange.md rules R234, R235). -/
def store16Instr (m : IndexMode) (nn : Word) : Instr :=
  m.pick (.ld_atNn_HL nn) (.ld_atNn_IX nn) (.ld_atNn_IY nn)

/-- LD SP,HL, LD SP,IX, LD SP,IY (41_load16_exchange.md rules R238, R239). -/
def loadSpInstr (m : IndexMode) : Instr :=
  m.pick .ld_SP_HL .ld_SP_IX .ld_SP_IY

/-- EX (SP),HL, EX (SP),IX, EX (SP),IY (41_load16_exchange.md rules R247, R248). -/
def exSpInstr (m : IndexMode) : Instr :=
  m.pick .ex_atSP_HL .ex_atSP_IX .ex_atSP_IY

/-- JP (HL), JP (IX), JP (IY) (47_control_flow.md rules R405, R406). -/
def jpRegInstr (m : IndexMode) : Instr :=
  m.pick .jp_atHL .jp_atIX .jp_atIY

/-- JP cc,nn (47_control_flow.md rule R401). -/
def jpCcInstr (k : Cond) (nn : Word) : Instr :=
  k.pick (.jp_NZ_nn nn) (.jp_Z_nn nn) (.jp_NC_nn nn) (.jp_C_nn nn) (.jp_PO_nn nn) (.jp_PE_nn nn) (.jp_P_nn nn) (.jp_M_nn nn)

/-- CALL cc,nn (47_control_flow.md rule R408). -/
def callCcInstr (k : Cond) (nn : Word) : Instr :=
  k.pick (.call_NZ_nn nn) (.call_Z_nn nn) (.call_NC_nn nn) (.call_C_nn nn) (.call_PO_nn nn) (.call_PE_nn nn) (.call_P_nn nn) (.call_M_nn nn)

/-- RET cc (47_control_flow.md rule R410). -/
def retCcInstr (k : Cond) : Instr :=
  k.pick .ret_NZ .ret_Z .ret_NC .ret_C .ret_PO .ret_PE .ret_P .ret_M

/-- JR cc,e: the conditions NZ, Z, NC and C by their index (47_control_flow.md rule R403). -/
def jrCcInstr (k : Fin 4) (e : Byte) : Instr :=
  match k.val with
  | 0 => (.jr_NZ_e e)
  | 1 => (.jr_Z_e e)
  | 2 => (.jr_NC_e e)
  | _ => (.jr_C_e e)

/-- RST y*8 (47_control_flow.md rule R413). -/
def rstInstr (y : Fin 8) : Instr :=
  pick8 y .rst_00 .rst_08 .rst_10 .rst_18 .rst_20 .rst_28 .rst_30 .rst_38

/-- The CB rotates and shifts of a register (44_rotate_shift_bit.md rules R325 to R332). -/
def rotRegInstr (o : RotOp) (z : Reg8) : Instr :=
  o.pick
    (z.pick .rlc_B .rlc_C .rlc_D .rlc_E .rlc_H .rlc_L .rlc_A)
    (z.pick .rrc_B .rrc_C .rrc_D .rrc_E .rrc_H .rrc_L .rrc_A)
    (z.pick .rl_B .rl_C .rl_D .rl_E .rl_H .rl_L .rl_A)
    (z.pick .rr_B .rr_C .rr_D .rr_E .rr_H .rr_L .rr_A)
    (z.pick .sla_B .sla_C .sla_D .sla_E .sla_H .sla_L .sla_A)
    (z.pick .sra_B .sra_C .sra_D .sra_E .sra_H .sra_L .sra_A)
    (z.pick .sll_B .sll_C .sll_D .sll_E .sll_H .sll_L .sll_A)
    (z.pick .srl_B .srl_C .srl_D .srl_E .srl_H .srl_L .srl_A)

/-- The CB rotates and shifts of (HL). -/
def rotHLInstr (o : RotOp) : Instr :=
  o.pick .rlc_atHL .rrc_atHL .rl_atHL .rr_atHL .sla_atHL .sra_atHL .sll_atHL .srl_atHL

/-- BIT b,r (44_rotate_shift_bit.md rule R334). -/
def bitRegInstr (b : Fin 8) (z : Reg8) : Instr :=
  pick8 b
    (z.pick .bit_0_B .bit_0_C .bit_0_D .bit_0_E .bit_0_H .bit_0_L .bit_0_A)
    (z.pick .bit_1_B .bit_1_C .bit_1_D .bit_1_E .bit_1_H .bit_1_L .bit_1_A)
    (z.pick .bit_2_B .bit_2_C .bit_2_D .bit_2_E .bit_2_H .bit_2_L .bit_2_A)
    (z.pick .bit_3_B .bit_3_C .bit_3_D .bit_3_E .bit_3_H .bit_3_L .bit_3_A)
    (z.pick .bit_4_B .bit_4_C .bit_4_D .bit_4_E .bit_4_H .bit_4_L .bit_4_A)
    (z.pick .bit_5_B .bit_5_C .bit_5_D .bit_5_E .bit_5_H .bit_5_L .bit_5_A)
    (z.pick .bit_6_B .bit_6_C .bit_6_D .bit_6_E .bit_6_H .bit_6_L .bit_6_A)
    (z.pick .bit_7_B .bit_7_C .bit_7_D .bit_7_E .bit_7_H .bit_7_L .bit_7_A)

/-- BIT b,(HL) (44_rotate_shift_bit.md rule R335). -/
def bitHLInstr (b : Fin 8) : Instr :=
  pick8 b .bit_0_atHL .bit_1_atHL .bit_2_atHL .bit_3_atHL .bit_4_atHL .bit_5_atHL .bit_6_atHL .bit_7_atHL

/-- RES b,r (44_rotate_shift_bit.md rule R336). -/
def resRegInstr (b : Fin 8) (z : Reg8) : Instr :=
  pick8 b
    (z.pick .res_0_B .res_0_C .res_0_D .res_0_E .res_0_H .res_0_L .res_0_A)
    (z.pick .res_1_B .res_1_C .res_1_D .res_1_E .res_1_H .res_1_L .res_1_A)
    (z.pick .res_2_B .res_2_C .res_2_D .res_2_E .res_2_H .res_2_L .res_2_A)
    (z.pick .res_3_B .res_3_C .res_3_D .res_3_E .res_3_H .res_3_L .res_3_A)
    (z.pick .res_4_B .res_4_C .res_4_D .res_4_E .res_4_H .res_4_L .res_4_A)
    (z.pick .res_5_B .res_5_C .res_5_D .res_5_E .res_5_H .res_5_L .res_5_A)
    (z.pick .res_6_B .res_6_C .res_6_D .res_6_E .res_6_H .res_6_L .res_6_A)
    (z.pick .res_7_B .res_7_C .res_7_D .res_7_E .res_7_H .res_7_L .res_7_A)

/-- RES b,(HL) (44_rotate_shift_bit.md rule R337). -/
def resHLInstr (b : Fin 8) : Instr :=
  pick8 b .res_0_atHL .res_1_atHL .res_2_atHL .res_3_atHL .res_4_atHL .res_5_atHL .res_6_atHL .res_7_atHL

/-- SET b,r (44_rotate_shift_bit.md rule R338). -/
def setRegInstr (b : Fin 8) (z : Reg8) : Instr :=
  pick8 b
    (z.pick .set_0_B .set_0_C .set_0_D .set_0_E .set_0_H .set_0_L .set_0_A)
    (z.pick .set_1_B .set_1_C .set_1_D .set_1_E .set_1_H .set_1_L .set_1_A)
    (z.pick .set_2_B .set_2_C .set_2_D .set_2_E .set_2_H .set_2_L .set_2_A)
    (z.pick .set_3_B .set_3_C .set_3_D .set_3_E .set_3_H .set_3_L .set_3_A)
    (z.pick .set_4_B .set_4_C .set_4_D .set_4_E .set_4_H .set_4_L .set_4_A)
    (z.pick .set_5_B .set_5_C .set_5_D .set_5_E .set_5_H .set_5_L .set_5_A)
    (z.pick .set_6_B .set_6_C .set_6_D .set_6_E .set_6_H .set_6_L .set_6_A)
    (z.pick .set_7_B .set_7_C .set_7_D .set_7_E .set_7_H .set_7_L .set_7_A)

/-- SET b,(HL) (44_rotate_shift_bit.md rule R339). -/
def setHLInstr (b : Fin 8) : Instr :=
  pick8 b .set_0_atHL .set_1_atHL .set_2_atHL .set_3_atHL .set_4_atHL .set_5_atHL .set_6_atHL .set_7_atHL

/-- One of the eight entries of table `r` by an optional register: none is z = 6. -/
def pickZ {α : Type} (z : Option Reg8) (b c d e h l m a : α) : α :=
  match z with
  | none => m
  | some k => k.pick b c d e h l a

/-- The indexed rotates and shifts on (IX+d) (44_rotate_shift_bit.md rule R341). -/
def rotIXdInstr (o : RotOp) (z : Option Reg8) (d : Byte) : Instr :=
  o.pick
    (pickZ z (.rlc_atIXd_B d) (.rlc_atIXd_C d) (.rlc_atIXd_D d) (.rlc_atIXd_E d) (.rlc_atIXd_H d) (.rlc_atIXd_L d) (.rlc_atIXd d) (.rlc_atIXd_A d))
    (pickZ z (.rrc_atIXd_B d) (.rrc_atIXd_C d) (.rrc_atIXd_D d) (.rrc_atIXd_E d) (.rrc_atIXd_H d) (.rrc_atIXd_L d) (.rrc_atIXd d) (.rrc_atIXd_A d))
    (pickZ z (.rl_atIXd_B d) (.rl_atIXd_C d) (.rl_atIXd_D d) (.rl_atIXd_E d) (.rl_atIXd_H d) (.rl_atIXd_L d) (.rl_atIXd d) (.rl_atIXd_A d))
    (pickZ z (.rr_atIXd_B d) (.rr_atIXd_C d) (.rr_atIXd_D d) (.rr_atIXd_E d) (.rr_atIXd_H d) (.rr_atIXd_L d) (.rr_atIXd d) (.rr_atIXd_A d))
    (pickZ z (.sla_atIXd_B d) (.sla_atIXd_C d) (.sla_atIXd_D d) (.sla_atIXd_E d) (.sla_atIXd_H d) (.sla_atIXd_L d) (.sla_atIXd d) (.sla_atIXd_A d))
    (pickZ z (.sra_atIXd_B d) (.sra_atIXd_C d) (.sra_atIXd_D d) (.sra_atIXd_E d) (.sra_atIXd_H d) (.sra_atIXd_L d) (.sra_atIXd d) (.sra_atIXd_A d))
    (pickZ z (.sll_atIXd_B d) (.sll_atIXd_C d) (.sll_atIXd_D d) (.sll_atIXd_E d) (.sll_atIXd_H d) (.sll_atIXd_L d) (.sll_atIXd d) (.sll_atIXd_A d))
    (pickZ z (.srl_atIXd_B d) (.srl_atIXd_C d) (.srl_atIXd_D d) (.srl_atIXd_E d) (.srl_atIXd_H d) (.srl_atIXd_L d) (.srl_atIXd d) (.srl_atIXd_A d))

/-- Indexed RES on (IX+d) (44_rotate_shift_bit.md rule R343). -/
def resIXdInstr (b : Fin 8) (z : Option Reg8) (d : Byte) : Instr :=
  pick8 b
    (pickZ z (.res_0_atIXd_B d) (.res_0_atIXd_C d) (.res_0_atIXd_D d) (.res_0_atIXd_E d) (.res_0_atIXd_H d) (.res_0_atIXd_L d) (.res_0_atIXd d) (.res_0_atIXd_A d))
    (pickZ z (.res_1_atIXd_B d) (.res_1_atIXd_C d) (.res_1_atIXd_D d) (.res_1_atIXd_E d) (.res_1_atIXd_H d) (.res_1_atIXd_L d) (.res_1_atIXd d) (.res_1_atIXd_A d))
    (pickZ z (.res_2_atIXd_B d) (.res_2_atIXd_C d) (.res_2_atIXd_D d) (.res_2_atIXd_E d) (.res_2_atIXd_H d) (.res_2_atIXd_L d) (.res_2_atIXd d) (.res_2_atIXd_A d))
    (pickZ z (.res_3_atIXd_B d) (.res_3_atIXd_C d) (.res_3_atIXd_D d) (.res_3_atIXd_E d) (.res_3_atIXd_H d) (.res_3_atIXd_L d) (.res_3_atIXd d) (.res_3_atIXd_A d))
    (pickZ z (.res_4_atIXd_B d) (.res_4_atIXd_C d) (.res_4_atIXd_D d) (.res_4_atIXd_E d) (.res_4_atIXd_H d) (.res_4_atIXd_L d) (.res_4_atIXd d) (.res_4_atIXd_A d))
    (pickZ z (.res_5_atIXd_B d) (.res_5_atIXd_C d) (.res_5_atIXd_D d) (.res_5_atIXd_E d) (.res_5_atIXd_H d) (.res_5_atIXd_L d) (.res_5_atIXd d) (.res_5_atIXd_A d))
    (pickZ z (.res_6_atIXd_B d) (.res_6_atIXd_C d) (.res_6_atIXd_D d) (.res_6_atIXd_E d) (.res_6_atIXd_H d) (.res_6_atIXd_L d) (.res_6_atIXd d) (.res_6_atIXd_A d))
    (pickZ z (.res_7_atIXd_B d) (.res_7_atIXd_C d) (.res_7_atIXd_D d) (.res_7_atIXd_E d) (.res_7_atIXd_H d) (.res_7_atIXd_L d) (.res_7_atIXd d) (.res_7_atIXd_A d))

/-- Indexed SET on (IX+d) (44_rotate_shift_bit.md rule R344). -/
def setIXdInstr (b : Fin 8) (z : Option Reg8) (d : Byte) : Instr :=
  pick8 b
    (pickZ z (.set_0_atIXd_B d) (.set_0_atIXd_C d) (.set_0_atIXd_D d) (.set_0_atIXd_E d) (.set_0_atIXd_H d) (.set_0_atIXd_L d) (.set_0_atIXd d) (.set_0_atIXd_A d))
    (pickZ z (.set_1_atIXd_B d) (.set_1_atIXd_C d) (.set_1_atIXd_D d) (.set_1_atIXd_E d) (.set_1_atIXd_H d) (.set_1_atIXd_L d) (.set_1_atIXd d) (.set_1_atIXd_A d))
    (pickZ z (.set_2_atIXd_B d) (.set_2_atIXd_C d) (.set_2_atIXd_D d) (.set_2_atIXd_E d) (.set_2_atIXd_H d) (.set_2_atIXd_L d) (.set_2_atIXd d) (.set_2_atIXd_A d))
    (pickZ z (.set_3_atIXd_B d) (.set_3_atIXd_C d) (.set_3_atIXd_D d) (.set_3_atIXd_E d) (.set_3_atIXd_H d) (.set_3_atIXd_L d) (.set_3_atIXd d) (.set_3_atIXd_A d))
    (pickZ z (.set_4_atIXd_B d) (.set_4_atIXd_C d) (.set_4_atIXd_D d) (.set_4_atIXd_E d) (.set_4_atIXd_H d) (.set_4_atIXd_L d) (.set_4_atIXd d) (.set_4_atIXd_A d))
    (pickZ z (.set_5_atIXd_B d) (.set_5_atIXd_C d) (.set_5_atIXd_D d) (.set_5_atIXd_E d) (.set_5_atIXd_H d) (.set_5_atIXd_L d) (.set_5_atIXd d) (.set_5_atIXd_A d))
    (pickZ z (.set_6_atIXd_B d) (.set_6_atIXd_C d) (.set_6_atIXd_D d) (.set_6_atIXd_E d) (.set_6_atIXd_H d) (.set_6_atIXd_L d) (.set_6_atIXd d) (.set_6_atIXd_A d))
    (pickZ z (.set_7_atIXd_B d) (.set_7_atIXd_C d) (.set_7_atIXd_D d) (.set_7_atIXd_E d) (.set_7_atIXd_H d) (.set_7_atIXd_L d) (.set_7_atIXd d) (.set_7_atIXd_A d))

/-- Indexed BIT on (IX+d), with the z field it ignores (44_rotate_shift_bit.md rule R342). -/
def bitIXdInstr (b z : Fin 8) (d : Byte) : Instr :=
  pick8 b
    (.bit_0_atIXd d z) (.bit_1_atIXd d z) (.bit_2_atIXd d z) (.bit_3_atIXd d z) (.bit_4_atIXd d z) (.bit_5_atIXd d z) (.bit_6_atIXd d z) (.bit_7_atIXd d z)

/-- The indexed rotates and shifts on (IY+d) (44_rotate_shift_bit.md rule R341). -/
def rotIYdInstr (o : RotOp) (z : Option Reg8) (d : Byte) : Instr :=
  o.pick
    (pickZ z (.rlc_atIYd_B d) (.rlc_atIYd_C d) (.rlc_atIYd_D d) (.rlc_atIYd_E d) (.rlc_atIYd_H d) (.rlc_atIYd_L d) (.rlc_atIYd d) (.rlc_atIYd_A d))
    (pickZ z (.rrc_atIYd_B d) (.rrc_atIYd_C d) (.rrc_atIYd_D d) (.rrc_atIYd_E d) (.rrc_atIYd_H d) (.rrc_atIYd_L d) (.rrc_atIYd d) (.rrc_atIYd_A d))
    (pickZ z (.rl_atIYd_B d) (.rl_atIYd_C d) (.rl_atIYd_D d) (.rl_atIYd_E d) (.rl_atIYd_H d) (.rl_atIYd_L d) (.rl_atIYd d) (.rl_atIYd_A d))
    (pickZ z (.rr_atIYd_B d) (.rr_atIYd_C d) (.rr_atIYd_D d) (.rr_atIYd_E d) (.rr_atIYd_H d) (.rr_atIYd_L d) (.rr_atIYd d) (.rr_atIYd_A d))
    (pickZ z (.sla_atIYd_B d) (.sla_atIYd_C d) (.sla_atIYd_D d) (.sla_atIYd_E d) (.sla_atIYd_H d) (.sla_atIYd_L d) (.sla_atIYd d) (.sla_atIYd_A d))
    (pickZ z (.sra_atIYd_B d) (.sra_atIYd_C d) (.sra_atIYd_D d) (.sra_atIYd_E d) (.sra_atIYd_H d) (.sra_atIYd_L d) (.sra_atIYd d) (.sra_atIYd_A d))
    (pickZ z (.sll_atIYd_B d) (.sll_atIYd_C d) (.sll_atIYd_D d) (.sll_atIYd_E d) (.sll_atIYd_H d) (.sll_atIYd_L d) (.sll_atIYd d) (.sll_atIYd_A d))
    (pickZ z (.srl_atIYd_B d) (.srl_atIYd_C d) (.srl_atIYd_D d) (.srl_atIYd_E d) (.srl_atIYd_H d) (.srl_atIYd_L d) (.srl_atIYd d) (.srl_atIYd_A d))

/-- Indexed RES on (IY+d) (44_rotate_shift_bit.md rule R343). -/
def resIYdInstr (b : Fin 8) (z : Option Reg8) (d : Byte) : Instr :=
  pick8 b
    (pickZ z (.res_0_atIYd_B d) (.res_0_atIYd_C d) (.res_0_atIYd_D d) (.res_0_atIYd_E d) (.res_0_atIYd_H d) (.res_0_atIYd_L d) (.res_0_atIYd d) (.res_0_atIYd_A d))
    (pickZ z (.res_1_atIYd_B d) (.res_1_atIYd_C d) (.res_1_atIYd_D d) (.res_1_atIYd_E d) (.res_1_atIYd_H d) (.res_1_atIYd_L d) (.res_1_atIYd d) (.res_1_atIYd_A d))
    (pickZ z (.res_2_atIYd_B d) (.res_2_atIYd_C d) (.res_2_atIYd_D d) (.res_2_atIYd_E d) (.res_2_atIYd_H d) (.res_2_atIYd_L d) (.res_2_atIYd d) (.res_2_atIYd_A d))
    (pickZ z (.res_3_atIYd_B d) (.res_3_atIYd_C d) (.res_3_atIYd_D d) (.res_3_atIYd_E d) (.res_3_atIYd_H d) (.res_3_atIYd_L d) (.res_3_atIYd d) (.res_3_atIYd_A d))
    (pickZ z (.res_4_atIYd_B d) (.res_4_atIYd_C d) (.res_4_atIYd_D d) (.res_4_atIYd_E d) (.res_4_atIYd_H d) (.res_4_atIYd_L d) (.res_4_atIYd d) (.res_4_atIYd_A d))
    (pickZ z (.res_5_atIYd_B d) (.res_5_atIYd_C d) (.res_5_atIYd_D d) (.res_5_atIYd_E d) (.res_5_atIYd_H d) (.res_5_atIYd_L d) (.res_5_atIYd d) (.res_5_atIYd_A d))
    (pickZ z (.res_6_atIYd_B d) (.res_6_atIYd_C d) (.res_6_atIYd_D d) (.res_6_atIYd_E d) (.res_6_atIYd_H d) (.res_6_atIYd_L d) (.res_6_atIYd d) (.res_6_atIYd_A d))
    (pickZ z (.res_7_atIYd_B d) (.res_7_atIYd_C d) (.res_7_atIYd_D d) (.res_7_atIYd_E d) (.res_7_atIYd_H d) (.res_7_atIYd_L d) (.res_7_atIYd d) (.res_7_atIYd_A d))

/-- Indexed SET on (IY+d) (44_rotate_shift_bit.md rule R344). -/
def setIYdInstr (b : Fin 8) (z : Option Reg8) (d : Byte) : Instr :=
  pick8 b
    (pickZ z (.set_0_atIYd_B d) (.set_0_atIYd_C d) (.set_0_atIYd_D d) (.set_0_atIYd_E d) (.set_0_atIYd_H d) (.set_0_atIYd_L d) (.set_0_atIYd d) (.set_0_atIYd_A d))
    (pickZ z (.set_1_atIYd_B d) (.set_1_atIYd_C d) (.set_1_atIYd_D d) (.set_1_atIYd_E d) (.set_1_atIYd_H d) (.set_1_atIYd_L d) (.set_1_atIYd d) (.set_1_atIYd_A d))
    (pickZ z (.set_2_atIYd_B d) (.set_2_atIYd_C d) (.set_2_atIYd_D d) (.set_2_atIYd_E d) (.set_2_atIYd_H d) (.set_2_atIYd_L d) (.set_2_atIYd d) (.set_2_atIYd_A d))
    (pickZ z (.set_3_atIYd_B d) (.set_3_atIYd_C d) (.set_3_atIYd_D d) (.set_3_atIYd_E d) (.set_3_atIYd_H d) (.set_3_atIYd_L d) (.set_3_atIYd d) (.set_3_atIYd_A d))
    (pickZ z (.set_4_atIYd_B d) (.set_4_atIYd_C d) (.set_4_atIYd_D d) (.set_4_atIYd_E d) (.set_4_atIYd_H d) (.set_4_atIYd_L d) (.set_4_atIYd d) (.set_4_atIYd_A d))
    (pickZ z (.set_5_atIYd_B d) (.set_5_atIYd_C d) (.set_5_atIYd_D d) (.set_5_atIYd_E d) (.set_5_atIYd_H d) (.set_5_atIYd_L d) (.set_5_atIYd d) (.set_5_atIYd_A d))
    (pickZ z (.set_6_atIYd_B d) (.set_6_atIYd_C d) (.set_6_atIYd_D d) (.set_6_atIYd_E d) (.set_6_atIYd_H d) (.set_6_atIYd_L d) (.set_6_atIYd d) (.set_6_atIYd_A d))
    (pickZ z (.set_7_atIYd_B d) (.set_7_atIYd_C d) (.set_7_atIYd_D d) (.set_7_atIYd_E d) (.set_7_atIYd_H d) (.set_7_atIYd_L d) (.set_7_atIYd d) (.set_7_atIYd_A d))

/-- Indexed BIT on (IY+d), with the z field it ignores (44_rotate_shift_bit.md rule R342). -/
def bitIYdInstr (b z : Fin 8) (d : Byte) : Instr :=
  pick8 b
    (.bit_0_atIYd d z) (.bit_1_atIYd d z) (.bit_2_atIYd d z) (.bit_3_atIYd d z) (.bit_4_atIYd d z) (.bit_5_atIYd d z) (.bit_6_atIYd d z) (.bit_7_atIYd d z)

/-- The indexed rotates and shifts on (m+d). -/
def rotIdxInstr (m : IdxReg) (o : RotOp) (z : Option Reg8) (d : Byte) : Instr :=
  m.pick (rotIXdInstr o z d) (rotIYdInstr o z d)

/-- Indexed RES on (m+d). -/
def resIdxInstr (m : IdxReg) (b : Fin 8) (z : Option Reg8) (d : Byte) : Instr :=
  m.pick (resIXdInstr b z d) (resIYdInstr b z d)

/-- Indexed SET on (m+d). -/
def setIdxInstr (m : IdxReg) (b : Fin 8) (z : Option Reg8) (d : Byte) : Instr :=
  m.pick (setIXdInstr b z d) (setIYdInstr b z d)

/-- Indexed BIT on (m+d). -/
def bitIdxInstr (m : IdxReg) (b z : Fin 8) (d : Byte) : Instr :=
  m.pick (bitIXdInstr b z d) (bitIYdInstr b z d)

/-- LD rp,(nn), ED form (41_load16_exchange.md rule R236). -/
def loadEdInstr (p : Rp) (nn : Word) : Instr :=
  p.pick (.ld_BC_atNn nn) (.ld_DE_atNn nn) (.ld_HL_atNn_ed nn) (.ld_SP_atNn nn)

/-- LD (nn),rp, ED form (41_load16_exchange.md rule R237). -/
def storeEdInstr (p : Rp) (nn : Word) : Instr :=
  p.pick (.ld_atNn_BC nn) (.ld_atNn_DE nn) (.ld_atNn_HL_ed nn) (.ld_atNn_SP nn)

/-- ADC HL,rp (43_alu16.md rule R305). -/
def adcHLInstr (p : Rp) : Instr :=
  p.pick .adc_HL_BC .adc_HL_DE .adc_HL_HL .adc_HL_SP

/-- SBC HL,rp (43_alu16.md rule R306). -/
def sbcHLInstr (p : Rp) : Instr :=
  p.pick .sbc_HL_BC .sbc_HL_DE .sbc_HL_HL .sbc_HL_SP

/-- IN r,(C) (46_io.md rule R387). -/
def inRegInstr (k : Reg8) : Instr :=
  k.pick .in_B_atC .in_C_atC .in_D_atC .in_E_atC .in_H_atC .in_L_atC .in_A_atC

/-- OUT (C),r (46_io.md rule R389). -/
def outRegInstr (k : Reg8) : Instr :=
  k.pick .out_atC_B .out_atC_C .out_atC_D .out_atC_E .out_atC_H .out_atC_L .out_atC_A

/-- IM im[y]: table `im` (30_encoding.md rule R107). -/
def imInstr (y : Fin 8) : Instr :=
  pick8 y (.im_0 y) (.im_0 y) (.im_1 y) (.im_2 y) (.im_0 y) (.im_0 y) (.im_1 y) (.im_2 y)

/-- Table `bli` (30_encoding.md rule R108). -/
def blockInstr (fam : BlockFamily) (up rep : Bool) : Instr :=
  match fam, up, rep with
  | .ld, true, false => .ldi
  | .ld, false, false => .ldd
  | .ld, true, true => .ldir
  | .ld, false, true => .lddr
  | .cp, true, false => .cpi
  | .cp, false, false => .cpd
  | .cp, true, true => .cpir
  | .cp, false, true => .cpdr
  | .inp, true, false => .ini
  | .inp, false, false => .ind
  | .inp, true, true => .inir
  | .inp, false, true => .indr
  | .outp, true, false => .outi
  | .outp, false, false => .outd
  | .outp, true, true => .otir
  | .outp, false, true => .otdr

/-- The instruction an ED table entry stands for after an unprefixed ED byte (30_encoding.md rule R116). -/
def edInstr (e : EdOp) : Instr :=
  match e with
  | .inReg k => inRegInstr k
  | .inF => .in_F_atC
  | .outReg k => outRegInstr k
  | .outZero => .out_atC_0
  | .sbcHL p => sbcHLInstr p
  | .adcHL p => adcHLInstr p
  | .store p nn => storeEdInstr p nn
  | .load p nn => loadEdInstr p nn
  | .neg y => (.neg y)
  | .reti => .reti
  | .retn y => (.retn y)
  | .im y => imInstr y
  | .ldIA => .ld_I_A
  | .ldRA => .ld_R_A
  | .ldAI => .ld_A_I
  | .ldAR => .ld_A_R
  | .rrd => .rrd
  | .rld => .rld
  | .block fam up rep => blockInstr fam up rep
  | .noni op => (.noni op)

/-- An ED table entry after DD or FD: the prefix is discarded (48_cpu_control.md rule R438). -/
def edUnderInstr (m : IdxReg) (e : EdOp) : Instr :=
  m.pick (.prefixIX_ED e) (.prefixIY_ED e)

/-- A DD byte under an index mode (48_cpu_control.md rule R436). -/
def prefixIXInstr (m : IndexMode) : Instr :=
  m.pick .prefixIX .prefixIX_overIX .prefixIX_overIY

/-- An FD byte under an index mode (48_cpu_control.md rule R436). -/
def prefixIYInstr (m : IndexMode) : Instr :=
  m.pick .prefixIY .prefixIY_overIX .prefixIY_overIY

/-- The instruction a table entry stands for. -/
def Op.toInstr (p : Op) : Instr :=
  match p with
  | .ld m y z => ldRowInstr m y z
  | .ldImm m y n => ldImmInstr m y n
  | .ldFrom o y => ldFromInstr o y
  | .ldTo o z => ldToInstr o z
  | .ldToImm o n => ldToImmInstr o n
  | .ldAFromBC => .ld_A_atBC
  | .ldAFromDE => .ld_A_atDE
  | .ldAFromNn nn => .ld_A_atNn nn
  | .ldAToBC => .ld_atBC_A
  | .ldAToDE => .ld_atDE_A
  | .ldAToNn nn => .ld_atNn_A nn
  | .ld16Imm m p nn => ld16ImmInstr m p nn
  | .ld16From m nn => load16Instr m nn
  | .ld16To m nn => store16Instr m nn
  | .ldSp m => loadSpInstr m
  | .push m p => pushInstr m p
  | .pop m p => popInstr m p
  | .exDeHl => .ex_DE_HL
  | .exAf => .ex_AF_AF
  | .exx => .exx
  | .exSp m => exSpInstr m
  | .aluReg m a z => aluRowInstr m a z
  | .aluMem a o => aluMemInstr a o
  | .aluImm a n => aluImmInstr a n
  | .incReg m y => incRowInstr m y
  | .incMem o => incMemInstr o
  | .decReg m y => decRowInstr m y
  | .decMem o => decMemInstr o
  | .daa => .daa
  | .cpl => .cpl
  | .scf => .scf
  | .ccf => .ccf
  | .add16 m p => add16Instr m p
  | .inc16 m p => inc16Instr m p
  | .dec16 m p => dec16Instr m p
  | .rlca => .rlca
  | .rrca => .rrca
  | .rla => .rla
  | .rra => .rra
  | .rotReg k z => rotRegInstr k z
  | .rotHL k => rotHLInstr k
  | .rotIdx m k z d => rotIdxInstr m k z d
  | .bitReg b z => bitRegInstr b z
  | .bitHL b => bitHLInstr b
  | .bitIdx m b z d => bitIdxInstr m b z d
  | .resReg b z => resRegInstr b z
  | .resHL b => resHLInstr b
  | .resIdx m b z d => resIdxInstr m b z d
  | .setReg b z => setRegInstr b z
  | .setHL b => setHLInstr b
  | .setIdx m b z d => setIdxInstr m b z d
  | .inA n => .in_A_atN n
  | .outA n => .out_atN_A n
  | .jp nn => .jp_nn nn
  | .jpCc k nn => jpCcInstr k nn
  | .jr e => .jr_e e
  | .jrCc k e => jrCcInstr k e
  | .djnz e => .djnz_e e
  | .jpReg m => jpRegInstr m
  | .call nn => .call_nn nn
  | .callCc k nn => callCcInstr k nn
  | .ret => .ret
  | .retCc k => retCcInstr k
  | .rst y => rstInstr y
  | .nop => .nop
  | .halt => .halt
  | .di => .di
  | .ei => .ei
  | .index .ix m => prefixIXInstr m
  | .index .iy m => prefixIYInstr m
  | .ed e => edInstr e
  | .edUnder x e => edUnderInstr x e

/-! ### Decoding bytes -/

/-- Why bytes are no instruction: nothing is illegal (30_encoding.md rule R123), but a list can end early. -/
inductive DecodeError where
  /-- The bytes end before the instruction does. -/
  | truncated
deriving DecidableEq, Repr

/-- The instruction the fetched bytes stand for. -/
def decodeFetched (m : IndexMode) (bs : List Byte) : Instr := (decodeOp m bs).toInstr

/-- The first instruction of a byte list under an index mode, and the bytes after it. -/
def decode (m : IndexMode) (bs : List Byte) : Except DecodeError (Instr × List Byte) :=
  let len := instrLength m (bs.getD 0 0) (bs.getD 1 0)
  if bs.length < len then .error .truncated else .ok (decodeFetched m bs, bs.drop len)

/-- An instruction's bytes as the index mode its prefix sets and the bytes after the prefix: a DD or FD
byte with something after it is a prefix (30_encoding.md rule R118). -/
def splitPrefix (bs : List Byte) : IndexMode × List Byte :=
  match bs with
  | p :: b :: rest =>
    if p = 0xDD then (.ix, b :: rest) else if p = 0xFD then (.iy, b :: rest) else (.hl, bs)
  | _ => (.hl, bs)

/-- The `k` low-order bytes of `w`, the most significant first. -/
def bytesOf : Nat → Nat → List Byte
  | 0, _ => []
  | k + 1, w => BitVec.ofNat 8 (w / 256 ^ k) :: bytesOf k w

/-- The bytes of a row of spec/opcode_table.json from its bits: the table reads a row's bytes as one
number, the FIRST byte the most significant (log entry 8). -/
def tableBytes (nbits w : Nat) : List Byte := bytesOf ((nbits + 7) / 8) w

/-- The instruction the decoder reads from a table row's bits, operand bytes past `nbits` being 0. -/
def decodeTableWord (nbits w : Nat) : Option Instr :=
  let r := splitPrefix (tableBytes nbits w)
  match decode r.1 (r.2 ++ [0, 0, 0, 0]) with
  | .ok (i, _) => some i
  | .error _ => none

end

/-! ### The encoder -/

/-- The bytes of an ED table entry, ED first (30_encoding.md rule R116). -/
def encodeED (e : EdOp) : List Byte :=
  let ypos (y : Fin 8) : Byte := BitVec.ofNat 8 (8 * y.val)
  match e with
  | .inReg k => [0xED, k.pick 0x40 0x48 0x50 0x58 0x60 0x68 0x78]
  | .inF => [0xED, 0x70]
  | .outReg k => [0xED, k.pick 0x41 0x49 0x51 0x59 0x61 0x69 0x79]
  | .outZero => [0xED, 0x71]
  | .sbcHL p => [0xED, p.pick 0x42 0x52 0x62 0x72]
  | .adcHL p => [0xED, p.pick 0x4A 0x5A 0x6A 0x7A]
  | .store p nn => [0xED, p.pick 0x43 0x53 0x63 0x73, loByte nn, hiByte nn]
  | .load p nn => [0xED, p.pick 0x4B 0x5B 0x6B 0x7B, loByte nn, hiByte nn]
  | .neg y => [0xED, 0x44 + ypos y]
  | .reti => [0xED, 0x4D]
  | .retn y => [0xED, 0x45 + ypos y]
  | .im y => [0xED, 0x46 + ypos y]
  | .ldIA => [0xED, 0x47]
  | .ldRA => [0xED, 0x4F]
  | .ldAI => [0xED, 0x57]
  | .ldAR => [0xED, 0x5F]
  | .rrd => [0xED, 0x67]
  | .rld => [0xED, 0x6F]
  | .block .ld up rep => [0xED, if rep then (if up then 0xB0 else 0xB8) else (if up then 0xA0 else 0xA8)]
  | .block .cp up rep => [0xED, if rep then (if up then 0xB1 else 0xB9) else (if up then 0xA1 else 0xA9)]
  | .block .inp up rep => [0xED, if rep then (if up then 0xB2 else 0xBA) else (if up then 0xA2 else 0xAA)]
  | .block .outp up rep => [0xED, if rep then (if up then 0xB3 else 0xBB) else (if up then 0xA3 else 0xAB)]
  | .noni op => [0xED, op]

/-- The bytes of a well-formed instruction, prefix first (spec/opcode_table.json, the row without a
prefix where a prefix has no effect). -/
def encode (i : Instr) : List Byte :=
  match i with
  | .nop => [0x00]
  | .ld_BC_nn nn => [0x01, loByte nn, hiByte nn]
  | .ld_atBC_A => [0x02]
  | .inc_BC => [0x03]
  | .inc_B => [0x04]
  | .dec_B => [0x05]
  | .ld_B_n n => [0x06, n]
  | .rlca => [0x07]
  | .ex_AF_AF => [0x08]
  | .add_HL_BC => [0x09]
  | .ld_A_atBC => [0x0A]
  | .dec_BC => [0x0B]
  | .inc_C => [0x0C]
  | .dec_C => [0x0D]
  | .ld_C_n n => [0x0E, n]
  | .rrca => [0x0F]
  | .djnz_e e => [0x10, e]
  | .ld_DE_nn nn => [0x11, loByte nn, hiByte nn]
  | .ld_atDE_A => [0x12]
  | .inc_DE => [0x13]
  | .inc_D => [0x14]
  | .dec_D => [0x15]
  | .ld_D_n n => [0x16, n]
  | .rla => [0x17]
  | .jr_e e => [0x18, e]
  | .add_HL_DE => [0x19]
  | .ld_A_atDE => [0x1A]
  | .dec_DE => [0x1B]
  | .inc_E => [0x1C]
  | .dec_E => [0x1D]
  | .ld_E_n n => [0x1E, n]
  | .rra => [0x1F]
  | .jr_NZ_e e => [0x20, e]
  | .ld_HL_nn nn => [0x21, loByte nn, hiByte nn]
  | .ld_atNn_HL nn => [0x22, loByte nn, hiByte nn]
  | .inc_HL => [0x23]
  | .inc_H => [0x24]
  | .dec_H => [0x25]
  | .ld_H_n n => [0x26, n]
  | .daa => [0x27]
  | .jr_Z_e e => [0x28, e]
  | .add_HL_HL => [0x29]
  | .ld_HL_atNn nn => [0x2A, loByte nn, hiByte nn]
  | .dec_HL => [0x2B]
  | .inc_L => [0x2C]
  | .dec_L => [0x2D]
  | .ld_L_n n => [0x2E, n]
  | .cpl => [0x2F]
  | .jr_NC_e e => [0x30, e]
  | .ld_SP_nn nn => [0x31, loByte nn, hiByte nn]
  | .ld_atNn_A nn => [0x32, loByte nn, hiByte nn]
  | .inc_SP => [0x33]
  | .inc_atHL => [0x34]
  | .dec_atHL => [0x35]
  | .ld_atHL_n n => [0x36, n]
  | .scf => [0x37]
  | .jr_C_e e => [0x38, e]
  | .add_HL_SP => [0x39]
  | .ld_A_atNn nn => [0x3A, loByte nn, hiByte nn]
  | .dec_SP => [0x3B]
  | .inc_A => [0x3C]
  | .dec_A => [0x3D]
  | .ld_A_n n => [0x3E, n]
  | .ccf => [0x3F]
  | .ld_B_B => [0x40]
  | .ld_B_C => [0x41]
  | .ld_B_D => [0x42]
  | .ld_B_E => [0x43]
  | .ld_B_H => [0x44]
  | .ld_B_L => [0x45]
  | .ld_B_atHL => [0x46]
  | .ld_B_A => [0x47]
  | .ld_C_B => [0x48]
  | .ld_C_C => [0x49]
  | .ld_C_D => [0x4A]
  | .ld_C_E => [0x4B]
  | .ld_C_H => [0x4C]
  | .ld_C_L => [0x4D]
  | .ld_C_atHL => [0x4E]
  | .ld_C_A => [0x4F]
  | .ld_D_B => [0x50]
  | .ld_D_C => [0x51]
  | .ld_D_D => [0x52]
  | .ld_D_E => [0x53]
  | .ld_D_H => [0x54]
  | .ld_D_L => [0x55]
  | .ld_D_atHL => [0x56]
  | .ld_D_A => [0x57]
  | .ld_E_B => [0x58]
  | .ld_E_C => [0x59]
  | .ld_E_D => [0x5A]
  | .ld_E_E => [0x5B]
  | .ld_E_H => [0x5C]
  | .ld_E_L => [0x5D]
  | .ld_E_atHL => [0x5E]
  | .ld_E_A => [0x5F]
  | .ld_H_B => [0x60]
  | .ld_H_C => [0x61]
  | .ld_H_D => [0x62]
  | .ld_H_E => [0x63]
  | .ld_H_H => [0x64]
  | .ld_H_L => [0x65]
  | .ld_H_atHL => [0x66]
  | .ld_H_A => [0x67]
  | .ld_L_B => [0x68]
  | .ld_L_C => [0x69]
  | .ld_L_D => [0x6A]
  | .ld_L_E => [0x6B]
  | .ld_L_H => [0x6C]
  | .ld_L_L => [0x6D]
  | .ld_L_atHL => [0x6E]
  | .ld_L_A => [0x6F]
  | .ld_atHL_B => [0x70]
  | .ld_atHL_C => [0x71]
  | .ld_atHL_D => [0x72]
  | .ld_atHL_E => [0x73]
  | .ld_atHL_H => [0x74]
  | .ld_atHL_L => [0x75]
  | .halt => [0x76]
  | .ld_atHL_A => [0x77]
  | .ld_A_B => [0x78]
  | .ld_A_C => [0x79]
  | .ld_A_D => [0x7A]
  | .ld_A_E => [0x7B]
  | .ld_A_H => [0x7C]
  | .ld_A_L => [0x7D]
  | .ld_A_atHL => [0x7E]
  | .ld_A_A => [0x7F]
  | .add_A_B => [0x80]
  | .add_A_C => [0x81]
  | .add_A_D => [0x82]
  | .add_A_E => [0x83]
  | .add_A_H => [0x84]
  | .add_A_L => [0x85]
  | .add_A_atHL => [0x86]
  | .add_A_A => [0x87]
  | .adc_A_B => [0x88]
  | .adc_A_C => [0x89]
  | .adc_A_D => [0x8A]
  | .adc_A_E => [0x8B]
  | .adc_A_H => [0x8C]
  | .adc_A_L => [0x8D]
  | .adc_A_atHL => [0x8E]
  | .adc_A_A => [0x8F]
  | .sub_B => [0x90]
  | .sub_C => [0x91]
  | .sub_D => [0x92]
  | .sub_E => [0x93]
  | .sub_H => [0x94]
  | .sub_L => [0x95]
  | .sub_atHL => [0x96]
  | .sub_A => [0x97]
  | .sbc_A_B => [0x98]
  | .sbc_A_C => [0x99]
  | .sbc_A_D => [0x9A]
  | .sbc_A_E => [0x9B]
  | .sbc_A_H => [0x9C]
  | .sbc_A_L => [0x9D]
  | .sbc_A_atHL => [0x9E]
  | .sbc_A_A => [0x9F]
  | .and_B => [0xA0]
  | .and_C => [0xA1]
  | .and_D => [0xA2]
  | .and_E => [0xA3]
  | .and_H => [0xA4]
  | .and_L => [0xA5]
  | .and_atHL => [0xA6]
  | .and_A => [0xA7]
  | .xor_B => [0xA8]
  | .xor_C => [0xA9]
  | .xor_D => [0xAA]
  | .xor_E => [0xAB]
  | .xor_H => [0xAC]
  | .xor_L => [0xAD]
  | .xor_atHL => [0xAE]
  | .xor_A => [0xAF]
  | .or_B => [0xB0]
  | .or_C => [0xB1]
  | .or_D => [0xB2]
  | .or_E => [0xB3]
  | .or_H => [0xB4]
  | .or_L => [0xB5]
  | .or_atHL => [0xB6]
  | .or_A => [0xB7]
  | .cp_B => [0xB8]
  | .cp_C => [0xB9]
  | .cp_D => [0xBA]
  | .cp_E => [0xBB]
  | .cp_H => [0xBC]
  | .cp_L => [0xBD]
  | .cp_atHL => [0xBE]
  | .cp_A => [0xBF]
  | .ret_NZ => [0xC0]
  | .pop_BC => [0xC1]
  | .jp_NZ_nn nn => [0xC2, loByte nn, hiByte nn]
  | .jp_nn nn => [0xC3, loByte nn, hiByte nn]
  | .call_NZ_nn nn => [0xC4, loByte nn, hiByte nn]
  | .push_BC => [0xC5]
  | .add_A_n n => [0xC6, n]
  | .rst_00 => [0xC7]
  | .ret_Z => [0xC8]
  | .ret => [0xC9]
  | .jp_Z_nn nn => [0xCA, loByte nn, hiByte nn]
  | .call_Z_nn nn => [0xCC, loByte nn, hiByte nn]
  | .call_nn nn => [0xCD, loByte nn, hiByte nn]
  | .adc_A_n n => [0xCE, n]
  | .rst_08 => [0xCF]
  | .ret_NC => [0xD0]
  | .pop_DE => [0xD1]
  | .jp_NC_nn nn => [0xD2, loByte nn, hiByte nn]
  | .out_atN_A n => [0xD3, n]
  | .call_NC_nn nn => [0xD4, loByte nn, hiByte nn]
  | .push_DE => [0xD5]
  | .sub_n n => [0xD6, n]
  | .rst_10 => [0xD7]
  | .ret_C => [0xD8]
  | .exx => [0xD9]
  | .jp_C_nn nn => [0xDA, loByte nn, hiByte nn]
  | .in_A_atN n => [0xDB, n]
  | .call_C_nn nn => [0xDC, loByte nn, hiByte nn]
  | .prefixIX => [0xDD]
  | .sbc_A_n n => [0xDE, n]
  | .rst_18 => [0xDF]
  | .ret_PO => [0xE0]
  | .pop_HL => [0xE1]
  | .jp_PO_nn nn => [0xE2, loByte nn, hiByte nn]
  | .ex_atSP_HL => [0xE3]
  | .call_PO_nn nn => [0xE4, loByte nn, hiByte nn]
  | .push_HL => [0xE5]
  | .and_n n => [0xE6, n]
  | .rst_20 => [0xE7]
  | .ret_PE => [0xE8]
  | .jp_atHL => [0xE9]
  | .jp_PE_nn nn => [0xEA, loByte nn, hiByte nn]
  | .ex_DE_HL => [0xEB]
  | .call_PE_nn nn => [0xEC, loByte nn, hiByte nn]
  | .xor_n n => [0xEE, n]
  | .rst_28 => [0xEF]
  | .ret_P => [0xF0]
  | .pop_AF => [0xF1]
  | .jp_P_nn nn => [0xF2, loByte nn, hiByte nn]
  | .di => [0xF3]
  | .call_P_nn nn => [0xF4, loByte nn, hiByte nn]
  | .push_AF => [0xF5]
  | .or_n n => [0xF6, n]
  | .rst_30 => [0xF7]
  | .ret_M => [0xF8]
  | .ld_SP_HL => [0xF9]
  | .jp_M_nn nn => [0xFA, loByte nn, hiByte nn]
  | .ei => [0xFB]
  | .call_M_nn nn => [0xFC, loByte nn, hiByte nn]
  | .prefixIY => [0xFD]
  | .cp_n n => [0xFE, n]
  | .rst_38 => [0xFF]
  | .rlc_B => [0xCB, 0x00]
  | .rlc_C => [0xCB, 0x01]
  | .rlc_D => [0xCB, 0x02]
  | .rlc_E => [0xCB, 0x03]
  | .rlc_H => [0xCB, 0x04]
  | .rlc_L => [0xCB, 0x05]
  | .rlc_atHL => [0xCB, 0x06]
  | .rlc_A => [0xCB, 0x07]
  | .rrc_B => [0xCB, 0x08]
  | .rrc_C => [0xCB, 0x09]
  | .rrc_D => [0xCB, 0x0A]
  | .rrc_E => [0xCB, 0x0B]
  | .rrc_H => [0xCB, 0x0C]
  | .rrc_L => [0xCB, 0x0D]
  | .rrc_atHL => [0xCB, 0x0E]
  | .rrc_A => [0xCB, 0x0F]
  | .rl_B => [0xCB, 0x10]
  | .rl_C => [0xCB, 0x11]
  | .rl_D => [0xCB, 0x12]
  | .rl_E => [0xCB, 0x13]
  | .rl_H => [0xCB, 0x14]
  | .rl_L => [0xCB, 0x15]
  | .rl_atHL => [0xCB, 0x16]
  | .rl_A => [0xCB, 0x17]
  | .rr_B => [0xCB, 0x18]
  | .rr_C => [0xCB, 0x19]
  | .rr_D => [0xCB, 0x1A]
  | .rr_E => [0xCB, 0x1B]
  | .rr_H => [0xCB, 0x1C]
  | .rr_L => [0xCB, 0x1D]
  | .rr_atHL => [0xCB, 0x1E]
  | .rr_A => [0xCB, 0x1F]
  | .sla_B => [0xCB, 0x20]
  | .sla_C => [0xCB, 0x21]
  | .sla_D => [0xCB, 0x22]
  | .sla_E => [0xCB, 0x23]
  | .sla_H => [0xCB, 0x24]
  | .sla_L => [0xCB, 0x25]
  | .sla_atHL => [0xCB, 0x26]
  | .sla_A => [0xCB, 0x27]
  | .sra_B => [0xCB, 0x28]
  | .sra_C => [0xCB, 0x29]
  | .sra_D => [0xCB, 0x2A]
  | .sra_E => [0xCB, 0x2B]
  | .sra_H => [0xCB, 0x2C]
  | .sra_L => [0xCB, 0x2D]
  | .sra_atHL => [0xCB, 0x2E]
  | .sra_A => [0xCB, 0x2F]
  | .sll_B => [0xCB, 0x30]
  | .sll_C => [0xCB, 0x31]
  | .sll_D => [0xCB, 0x32]
  | .sll_E => [0xCB, 0x33]
  | .sll_H => [0xCB, 0x34]
  | .sll_L => [0xCB, 0x35]
  | .sll_atHL => [0xCB, 0x36]
  | .sll_A => [0xCB, 0x37]
  | .srl_B => [0xCB, 0x38]
  | .srl_C => [0xCB, 0x39]
  | .srl_D => [0xCB, 0x3A]
  | .srl_E => [0xCB, 0x3B]
  | .srl_H => [0xCB, 0x3C]
  | .srl_L => [0xCB, 0x3D]
  | .srl_atHL => [0xCB, 0x3E]
  | .srl_A => [0xCB, 0x3F]
  | .bit_0_B => [0xCB, 0x40]
  | .bit_0_C => [0xCB, 0x41]
  | .bit_0_D => [0xCB, 0x42]
  | .bit_0_E => [0xCB, 0x43]
  | .bit_0_H => [0xCB, 0x44]
  | .bit_0_L => [0xCB, 0x45]
  | .bit_0_atHL => [0xCB, 0x46]
  | .bit_0_A => [0xCB, 0x47]
  | .bit_1_B => [0xCB, 0x48]
  | .bit_1_C => [0xCB, 0x49]
  | .bit_1_D => [0xCB, 0x4A]
  | .bit_1_E => [0xCB, 0x4B]
  | .bit_1_H => [0xCB, 0x4C]
  | .bit_1_L => [0xCB, 0x4D]
  | .bit_1_atHL => [0xCB, 0x4E]
  | .bit_1_A => [0xCB, 0x4F]
  | .bit_2_B => [0xCB, 0x50]
  | .bit_2_C => [0xCB, 0x51]
  | .bit_2_D => [0xCB, 0x52]
  | .bit_2_E => [0xCB, 0x53]
  | .bit_2_H => [0xCB, 0x54]
  | .bit_2_L => [0xCB, 0x55]
  | .bit_2_atHL => [0xCB, 0x56]
  | .bit_2_A => [0xCB, 0x57]
  | .bit_3_B => [0xCB, 0x58]
  | .bit_3_C => [0xCB, 0x59]
  | .bit_3_D => [0xCB, 0x5A]
  | .bit_3_E => [0xCB, 0x5B]
  | .bit_3_H => [0xCB, 0x5C]
  | .bit_3_L => [0xCB, 0x5D]
  | .bit_3_atHL => [0xCB, 0x5E]
  | .bit_3_A => [0xCB, 0x5F]
  | .bit_4_B => [0xCB, 0x60]
  | .bit_4_C => [0xCB, 0x61]
  | .bit_4_D => [0xCB, 0x62]
  | .bit_4_E => [0xCB, 0x63]
  | .bit_4_H => [0xCB, 0x64]
  | .bit_4_L => [0xCB, 0x65]
  | .bit_4_atHL => [0xCB, 0x66]
  | .bit_4_A => [0xCB, 0x67]
  | .bit_5_B => [0xCB, 0x68]
  | .bit_5_C => [0xCB, 0x69]
  | .bit_5_D => [0xCB, 0x6A]
  | .bit_5_E => [0xCB, 0x6B]
  | .bit_5_H => [0xCB, 0x6C]
  | .bit_5_L => [0xCB, 0x6D]
  | .bit_5_atHL => [0xCB, 0x6E]
  | .bit_5_A => [0xCB, 0x6F]
  | .bit_6_B => [0xCB, 0x70]
  | .bit_6_C => [0xCB, 0x71]
  | .bit_6_D => [0xCB, 0x72]
  | .bit_6_E => [0xCB, 0x73]
  | .bit_6_H => [0xCB, 0x74]
  | .bit_6_L => [0xCB, 0x75]
  | .bit_6_atHL => [0xCB, 0x76]
  | .bit_6_A => [0xCB, 0x77]
  | .bit_7_B => [0xCB, 0x78]
  | .bit_7_C => [0xCB, 0x79]
  | .bit_7_D => [0xCB, 0x7A]
  | .bit_7_E => [0xCB, 0x7B]
  | .bit_7_H => [0xCB, 0x7C]
  | .bit_7_L => [0xCB, 0x7D]
  | .bit_7_atHL => [0xCB, 0x7E]
  | .bit_7_A => [0xCB, 0x7F]
  | .res_0_B => [0xCB, 0x80]
  | .res_0_C => [0xCB, 0x81]
  | .res_0_D => [0xCB, 0x82]
  | .res_0_E => [0xCB, 0x83]
  | .res_0_H => [0xCB, 0x84]
  | .res_0_L => [0xCB, 0x85]
  | .res_0_atHL => [0xCB, 0x86]
  | .res_0_A => [0xCB, 0x87]
  | .res_1_B => [0xCB, 0x88]
  | .res_1_C => [0xCB, 0x89]
  | .res_1_D => [0xCB, 0x8A]
  | .res_1_E => [0xCB, 0x8B]
  | .res_1_H => [0xCB, 0x8C]
  | .res_1_L => [0xCB, 0x8D]
  | .res_1_atHL => [0xCB, 0x8E]
  | .res_1_A => [0xCB, 0x8F]
  | .res_2_B => [0xCB, 0x90]
  | .res_2_C => [0xCB, 0x91]
  | .res_2_D => [0xCB, 0x92]
  | .res_2_E => [0xCB, 0x93]
  | .res_2_H => [0xCB, 0x94]
  | .res_2_L => [0xCB, 0x95]
  | .res_2_atHL => [0xCB, 0x96]
  | .res_2_A => [0xCB, 0x97]
  | .res_3_B => [0xCB, 0x98]
  | .res_3_C => [0xCB, 0x99]
  | .res_3_D => [0xCB, 0x9A]
  | .res_3_E => [0xCB, 0x9B]
  | .res_3_H => [0xCB, 0x9C]
  | .res_3_L => [0xCB, 0x9D]
  | .res_3_atHL => [0xCB, 0x9E]
  | .res_3_A => [0xCB, 0x9F]
  | .res_4_B => [0xCB, 0xA0]
  | .res_4_C => [0xCB, 0xA1]
  | .res_4_D => [0xCB, 0xA2]
  | .res_4_E => [0xCB, 0xA3]
  | .res_4_H => [0xCB, 0xA4]
  | .res_4_L => [0xCB, 0xA5]
  | .res_4_atHL => [0xCB, 0xA6]
  | .res_4_A => [0xCB, 0xA7]
  | .res_5_B => [0xCB, 0xA8]
  | .res_5_C => [0xCB, 0xA9]
  | .res_5_D => [0xCB, 0xAA]
  | .res_5_E => [0xCB, 0xAB]
  | .res_5_H => [0xCB, 0xAC]
  | .res_5_L => [0xCB, 0xAD]
  | .res_5_atHL => [0xCB, 0xAE]
  | .res_5_A => [0xCB, 0xAF]
  | .res_6_B => [0xCB, 0xB0]
  | .res_6_C => [0xCB, 0xB1]
  | .res_6_D => [0xCB, 0xB2]
  | .res_6_E => [0xCB, 0xB3]
  | .res_6_H => [0xCB, 0xB4]
  | .res_6_L => [0xCB, 0xB5]
  | .res_6_atHL => [0xCB, 0xB6]
  | .res_6_A => [0xCB, 0xB7]
  | .res_7_B => [0xCB, 0xB8]
  | .res_7_C => [0xCB, 0xB9]
  | .res_7_D => [0xCB, 0xBA]
  | .res_7_E => [0xCB, 0xBB]
  | .res_7_H => [0xCB, 0xBC]
  | .res_7_L => [0xCB, 0xBD]
  | .res_7_atHL => [0xCB, 0xBE]
  | .res_7_A => [0xCB, 0xBF]
  | .set_0_B => [0xCB, 0xC0]
  | .set_0_C => [0xCB, 0xC1]
  | .set_0_D => [0xCB, 0xC2]
  | .set_0_E => [0xCB, 0xC3]
  | .set_0_H => [0xCB, 0xC4]
  | .set_0_L => [0xCB, 0xC5]
  | .set_0_atHL => [0xCB, 0xC6]
  | .set_0_A => [0xCB, 0xC7]
  | .set_1_B => [0xCB, 0xC8]
  | .set_1_C => [0xCB, 0xC9]
  | .set_1_D => [0xCB, 0xCA]
  | .set_1_E => [0xCB, 0xCB]
  | .set_1_H => [0xCB, 0xCC]
  | .set_1_L => [0xCB, 0xCD]
  | .set_1_atHL => [0xCB, 0xCE]
  | .set_1_A => [0xCB, 0xCF]
  | .set_2_B => [0xCB, 0xD0]
  | .set_2_C => [0xCB, 0xD1]
  | .set_2_D => [0xCB, 0xD2]
  | .set_2_E => [0xCB, 0xD3]
  | .set_2_H => [0xCB, 0xD4]
  | .set_2_L => [0xCB, 0xD5]
  | .set_2_atHL => [0xCB, 0xD6]
  | .set_2_A => [0xCB, 0xD7]
  | .set_3_B => [0xCB, 0xD8]
  | .set_3_C => [0xCB, 0xD9]
  | .set_3_D => [0xCB, 0xDA]
  | .set_3_E => [0xCB, 0xDB]
  | .set_3_H => [0xCB, 0xDC]
  | .set_3_L => [0xCB, 0xDD]
  | .set_3_atHL => [0xCB, 0xDE]
  | .set_3_A => [0xCB, 0xDF]
  | .set_4_B => [0xCB, 0xE0]
  | .set_4_C => [0xCB, 0xE1]
  | .set_4_D => [0xCB, 0xE2]
  | .set_4_E => [0xCB, 0xE3]
  | .set_4_H => [0xCB, 0xE4]
  | .set_4_L => [0xCB, 0xE5]
  | .set_4_atHL => [0xCB, 0xE6]
  | .set_4_A => [0xCB, 0xE7]
  | .set_5_B => [0xCB, 0xE8]
  | .set_5_C => [0xCB, 0xE9]
  | .set_5_D => [0xCB, 0xEA]
  | .set_5_E => [0xCB, 0xEB]
  | .set_5_H => [0xCB, 0xEC]
  | .set_5_L => [0xCB, 0xED]
  | .set_5_atHL => [0xCB, 0xEE]
  | .set_5_A => [0xCB, 0xEF]
  | .set_6_B => [0xCB, 0xF0]
  | .set_6_C => [0xCB, 0xF1]
  | .set_6_D => [0xCB, 0xF2]
  | .set_6_E => [0xCB, 0xF3]
  | .set_6_H => [0xCB, 0xF4]
  | .set_6_L => [0xCB, 0xF5]
  | .set_6_atHL => [0xCB, 0xF6]
  | .set_6_A => [0xCB, 0xF7]
  | .set_7_B => [0xCB, 0xF8]
  | .set_7_C => [0xCB, 0xF9]
  | .set_7_D => [0xCB, 0xFA]
  | .set_7_E => [0xCB, 0xFB]
  | .set_7_H => [0xCB, 0xFC]
  | .set_7_L => [0xCB, 0xFD]
  | .set_7_atHL => [0xCB, 0xFE]
  | .set_7_A => [0xCB, 0xFF]
  | .noni op => [0xED, op]
  | .in_B_atC => [0xED, 0x40]
  | .out_atC_B => [0xED, 0x41]
  | .sbc_HL_BC => [0xED, 0x42]
  | .ld_atNn_BC nn => [0xED, 0x43, loByte nn, hiByte nn]
  | .neg y => [0xED, 0x44 + BitVec.ofNat 8 (8 * y.val)]
  | .retn y => [0xED, 0x45 + BitVec.ofNat 8 (8 * y.val)]
  | .im_0 y => [0xED, 0x46 + BitVec.ofNat 8 (8 * y.val)]
  | .ld_I_A => [0xED, 0x47]
  | .in_C_atC => [0xED, 0x48]
  | .out_atC_C => [0xED, 0x49]
  | .adc_HL_BC => [0xED, 0x4A]
  | .ld_BC_atNn nn => [0xED, 0x4B, loByte nn, hiByte nn]
  | .reti => [0xED, 0x4D]
  | .ld_R_A => [0xED, 0x4F]
  | .in_D_atC => [0xED, 0x50]
  | .out_atC_D => [0xED, 0x51]
  | .sbc_HL_DE => [0xED, 0x52]
  | .ld_atNn_DE nn => [0xED, 0x53, loByte nn, hiByte nn]
  | .im_1 y => [0xED, 0x46 + BitVec.ofNat 8 (8 * y.val)]
  | .ld_A_I => [0xED, 0x57]
  | .in_E_atC => [0xED, 0x58]
  | .out_atC_E => [0xED, 0x59]
  | .adc_HL_DE => [0xED, 0x5A]
  | .ld_DE_atNn nn => [0xED, 0x5B, loByte nn, hiByte nn]
  | .im_2 y => [0xED, 0x46 + BitVec.ofNat 8 (8 * y.val)]
  | .ld_A_R => [0xED, 0x5F]
  | .in_H_atC => [0xED, 0x60]
  | .out_atC_H => [0xED, 0x61]
  | .sbc_HL_HL => [0xED, 0x62]
  | .ld_atNn_HL_ed nn => [0xED, 0x63, loByte nn, hiByte nn]
  | .rrd => [0xED, 0x67]
  | .in_L_atC => [0xED, 0x68]
  | .out_atC_L => [0xED, 0x69]
  | .adc_HL_HL => [0xED, 0x6A]
  | .ld_HL_atNn_ed nn => [0xED, 0x6B, loByte nn, hiByte nn]
  | .rld => [0xED, 0x6F]
  | .in_F_atC => [0xED, 0x70]
  | .out_atC_0 => [0xED, 0x71]
  | .sbc_HL_SP => [0xED, 0x72]
  | .ld_atNn_SP nn => [0xED, 0x73, loByte nn, hiByte nn]
  | .in_A_atC => [0xED, 0x78]
  | .out_atC_A => [0xED, 0x79]
  | .adc_HL_SP => [0xED, 0x7A]
  | .ld_SP_atNn nn => [0xED, 0x7B, loByte nn, hiByte nn]
  | .ldi => [0xED, 0xA0]
  | .cpi => [0xED, 0xA1]
  | .ini => [0xED, 0xA2]
  | .outi => [0xED, 0xA3]
  | .ldd => [0xED, 0xA8]
  | .cpd => [0xED, 0xA9]
  | .ind => [0xED, 0xAA]
  | .outd => [0xED, 0xAB]
  | .ldir => [0xED, 0xB0]
  | .cpir => [0xED, 0xB1]
  | .inir => [0xED, 0xB2]
  | .otir => [0xED, 0xB3]
  | .lddr => [0xED, 0xB8]
  | .cpdr => [0xED, 0xB9]
  | .indr => [0xED, 0xBA]
  | .otdr => [0xED, 0xBB]
  | .add_IX_BC => [0xDD, 0x09]
  | .add_IX_DE => [0xDD, 0x19]
  | .ld_IX_nn nn => [0xDD, 0x21, loByte nn, hiByte nn]
  | .ld_atNn_IX nn => [0xDD, 0x22, loByte nn, hiByte nn]
  | .inc_IX => [0xDD, 0x23]
  | .inc_IXH => [0xDD, 0x24]
  | .dec_IXH => [0xDD, 0x25]
  | .ld_IXH_n n => [0xDD, 0x26, n]
  | .add_IX_IX => [0xDD, 0x29]
  | .ld_IX_atNn nn => [0xDD, 0x2A, loByte nn, hiByte nn]
  | .dec_IX => [0xDD, 0x2B]
  | .inc_IXL => [0xDD, 0x2C]
  | .dec_IXL => [0xDD, 0x2D]
  | .ld_IXL_n n => [0xDD, 0x2E, n]
  | .inc_atIXd d => [0xDD, 0x34, d]
  | .dec_atIXd d => [0xDD, 0x35, d]
  | .ld_atIXd_n d n => [0xDD, 0x36, d, n]
  | .add_IX_SP => [0xDD, 0x39]
  | .ld_B_IXH => [0xDD, 0x44]
  | .ld_B_IXL => [0xDD, 0x45]
  | .ld_B_atIXd d => [0xDD, 0x46, d]
  | .ld_C_IXH => [0xDD, 0x4C]
  | .ld_C_IXL => [0xDD, 0x4D]
  | .ld_C_atIXd d => [0xDD, 0x4E, d]
  | .ld_D_IXH => [0xDD, 0x54]
  | .ld_D_IXL => [0xDD, 0x55]
  | .ld_D_atIXd d => [0xDD, 0x56, d]
  | .ld_E_IXH => [0xDD, 0x5C]
  | .ld_E_IXL => [0xDD, 0x5D]
  | .ld_E_atIXd d => [0xDD, 0x5E, d]
  | .ld_IXH_B => [0xDD, 0x60]
  | .ld_IXH_C => [0xDD, 0x61]
  | .ld_IXH_D => [0xDD, 0x62]
  | .ld_IXH_E => [0xDD, 0x63]
  | .ld_IXH_IXH => [0xDD, 0x64]
  | .ld_IXH_IXL => [0xDD, 0x65]
  | .ld_H_atIXd d => [0xDD, 0x66, d]
  | .ld_IXH_A => [0xDD, 0x67]
  | .ld_IXL_B => [0xDD, 0x68]
  | .ld_IXL_C => [0xDD, 0x69]
  | .ld_IXL_D => [0xDD, 0x6A]
  | .ld_IXL_E => [0xDD, 0x6B]
  | .ld_IXL_IXH => [0xDD, 0x6C]
  | .ld_IXL_IXL => [0xDD, 0x6D]
  | .ld_L_atIXd d => [0xDD, 0x6E, d]
  | .ld_IXL_A => [0xDD, 0x6F]
  | .ld_atIXd_B d => [0xDD, 0x70, d]
  | .ld_atIXd_C d => [0xDD, 0x71, d]
  | .ld_atIXd_D d => [0xDD, 0x72, d]
  | .ld_atIXd_E d => [0xDD, 0x73, d]
  | .ld_atIXd_H d => [0xDD, 0x74, d]
  | .ld_atIXd_L d => [0xDD, 0x75, d]
  | .ld_atIXd_A d => [0xDD, 0x77, d]
  | .ld_A_IXH => [0xDD, 0x7C]
  | .ld_A_IXL => [0xDD, 0x7D]
  | .ld_A_atIXd d => [0xDD, 0x7E, d]
  | .add_A_IXH => [0xDD, 0x84]
  | .add_A_IXL => [0xDD, 0x85]
  | .add_A_atIXd d => [0xDD, 0x86, d]
  | .adc_A_IXH => [0xDD, 0x8C]
  | .adc_A_IXL => [0xDD, 0x8D]
  | .adc_A_atIXd d => [0xDD, 0x8E, d]
  | .sub_IXH => [0xDD, 0x94]
  | .sub_IXL => [0xDD, 0x95]
  | .sub_atIXd d => [0xDD, 0x96, d]
  | .sbc_A_IXH => [0xDD, 0x9C]
  | .sbc_A_IXL => [0xDD, 0x9D]
  | .sbc_A_atIXd d => [0xDD, 0x9E, d]
  | .and_IXH => [0xDD, 0xA4]
  | .and_IXL => [0xDD, 0xA5]
  | .and_atIXd d => [0xDD, 0xA6, d]
  | .xor_IXH => [0xDD, 0xAC]
  | .xor_IXL => [0xDD, 0xAD]
  | .xor_atIXd d => [0xDD, 0xAE, d]
  | .or_IXH => [0xDD, 0xB4]
  | .or_IXL => [0xDD, 0xB5]
  | .or_atIXd d => [0xDD, 0xB6, d]
  | .cp_IXH => [0xDD, 0xBC]
  | .cp_IXL => [0xDD, 0xBD]
  | .cp_atIXd d => [0xDD, 0xBE, d]
  | .prefixIX_overIX => [0xDD, 0xDD]
  | .pop_IX => [0xDD, 0xE1]
  | .ex_atSP_IX => [0xDD, 0xE3]
  | .push_IX => [0xDD, 0xE5]
  | .jp_atIX => [0xDD, 0xE9]
  | .prefixIX_ED e => 0xDD :: encodeED e
  | .ld_SP_IX => [0xDD, 0xF9]
  | .prefixIY_overIX => [0xDD, 0xFD]
  | .add_IY_BC => [0xFD, 0x09]
  | .add_IY_DE => [0xFD, 0x19]
  | .ld_IY_nn nn => [0xFD, 0x21, loByte nn, hiByte nn]
  | .ld_atNn_IY nn => [0xFD, 0x22, loByte nn, hiByte nn]
  | .inc_IY => [0xFD, 0x23]
  | .inc_IYH => [0xFD, 0x24]
  | .dec_IYH => [0xFD, 0x25]
  | .ld_IYH_n n => [0xFD, 0x26, n]
  | .add_IY_IY => [0xFD, 0x29]
  | .ld_IY_atNn nn => [0xFD, 0x2A, loByte nn, hiByte nn]
  | .dec_IY => [0xFD, 0x2B]
  | .inc_IYL => [0xFD, 0x2C]
  | .dec_IYL => [0xFD, 0x2D]
  | .ld_IYL_n n => [0xFD, 0x2E, n]
  | .inc_atIYd d => [0xFD, 0x34, d]
  | .dec_atIYd d => [0xFD, 0x35, d]
  | .ld_atIYd_n d n => [0xFD, 0x36, d, n]
  | .add_IY_SP => [0xFD, 0x39]
  | .ld_B_IYH => [0xFD, 0x44]
  | .ld_B_IYL => [0xFD, 0x45]
  | .ld_B_atIYd d => [0xFD, 0x46, d]
  | .ld_C_IYH => [0xFD, 0x4C]
  | .ld_C_IYL => [0xFD, 0x4D]
  | .ld_C_atIYd d => [0xFD, 0x4E, d]
  | .ld_D_IYH => [0xFD, 0x54]
  | .ld_D_IYL => [0xFD, 0x55]
  | .ld_D_atIYd d => [0xFD, 0x56, d]
  | .ld_E_IYH => [0xFD, 0x5C]
  | .ld_E_IYL => [0xFD, 0x5D]
  | .ld_E_atIYd d => [0xFD, 0x5E, d]
  | .ld_IYH_B => [0xFD, 0x60]
  | .ld_IYH_C => [0xFD, 0x61]
  | .ld_IYH_D => [0xFD, 0x62]
  | .ld_IYH_E => [0xFD, 0x63]
  | .ld_IYH_IYH => [0xFD, 0x64]
  | .ld_IYH_IYL => [0xFD, 0x65]
  | .ld_H_atIYd d => [0xFD, 0x66, d]
  | .ld_IYH_A => [0xFD, 0x67]
  | .ld_IYL_B => [0xFD, 0x68]
  | .ld_IYL_C => [0xFD, 0x69]
  | .ld_IYL_D => [0xFD, 0x6A]
  | .ld_IYL_E => [0xFD, 0x6B]
  | .ld_IYL_IYH => [0xFD, 0x6C]
  | .ld_IYL_IYL => [0xFD, 0x6D]
  | .ld_L_atIYd d => [0xFD, 0x6E, d]
  | .ld_IYL_A => [0xFD, 0x6F]
  | .ld_atIYd_B d => [0xFD, 0x70, d]
  | .ld_atIYd_C d => [0xFD, 0x71, d]
  | .ld_atIYd_D d => [0xFD, 0x72, d]
  | .ld_atIYd_E d => [0xFD, 0x73, d]
  | .ld_atIYd_H d => [0xFD, 0x74, d]
  | .ld_atIYd_L d => [0xFD, 0x75, d]
  | .ld_atIYd_A d => [0xFD, 0x77, d]
  | .ld_A_IYH => [0xFD, 0x7C]
  | .ld_A_IYL => [0xFD, 0x7D]
  | .ld_A_atIYd d => [0xFD, 0x7E, d]
  | .add_A_IYH => [0xFD, 0x84]
  | .add_A_IYL => [0xFD, 0x85]
  | .add_A_atIYd d => [0xFD, 0x86, d]
  | .adc_A_IYH => [0xFD, 0x8C]
  | .adc_A_IYL => [0xFD, 0x8D]
  | .adc_A_atIYd d => [0xFD, 0x8E, d]
  | .sub_IYH => [0xFD, 0x94]
  | .sub_IYL => [0xFD, 0x95]
  | .sub_atIYd d => [0xFD, 0x96, d]
  | .sbc_A_IYH => [0xFD, 0x9C]
  | .sbc_A_IYL => [0xFD, 0x9D]
  | .sbc_A_atIYd d => [0xFD, 0x9E, d]
  | .and_IYH => [0xFD, 0xA4]
  | .and_IYL => [0xFD, 0xA5]
  | .and_atIYd d => [0xFD, 0xA6, d]
  | .xor_IYH => [0xFD, 0xAC]
  | .xor_IYL => [0xFD, 0xAD]
  | .xor_atIYd d => [0xFD, 0xAE, d]
  | .or_IYH => [0xFD, 0xB4]
  | .or_IYL => [0xFD, 0xB5]
  | .or_atIYd d => [0xFD, 0xB6, d]
  | .cp_IYH => [0xFD, 0xBC]
  | .cp_IYL => [0xFD, 0xBD]
  | .cp_atIYd d => [0xFD, 0xBE, d]
  | .prefixIX_overIY => [0xFD, 0xDD]
  | .pop_IY => [0xFD, 0xE1]
  | .ex_atSP_IY => [0xFD, 0xE3]
  | .push_IY => [0xFD, 0xE5]
  | .jp_atIY => [0xFD, 0xE9]
  | .prefixIY_ED e => 0xFD :: encodeED e
  | .ld_SP_IY => [0xFD, 0xF9]
  | .prefixIY_overIY => [0xFD, 0xFD]
  | .rlc_atIXd_B d => [0xDD, 0xCB, d, 0x00]
  | .rlc_atIXd_C d => [0xDD, 0xCB, d, 0x01]
  | .rlc_atIXd_D d => [0xDD, 0xCB, d, 0x02]
  | .rlc_atIXd_E d => [0xDD, 0xCB, d, 0x03]
  | .rlc_atIXd_H d => [0xDD, 0xCB, d, 0x04]
  | .rlc_atIXd_L d => [0xDD, 0xCB, d, 0x05]
  | .rlc_atIXd d => [0xDD, 0xCB, d, 0x06]
  | .rlc_atIXd_A d => [0xDD, 0xCB, d, 0x07]
  | .rrc_atIXd_B d => [0xDD, 0xCB, d, 0x08]
  | .rrc_atIXd_C d => [0xDD, 0xCB, d, 0x09]
  | .rrc_atIXd_D d => [0xDD, 0xCB, d, 0x0A]
  | .rrc_atIXd_E d => [0xDD, 0xCB, d, 0x0B]
  | .rrc_atIXd_H d => [0xDD, 0xCB, d, 0x0C]
  | .rrc_atIXd_L d => [0xDD, 0xCB, d, 0x0D]
  | .rrc_atIXd d => [0xDD, 0xCB, d, 0x0E]
  | .rrc_atIXd_A d => [0xDD, 0xCB, d, 0x0F]
  | .rl_atIXd_B d => [0xDD, 0xCB, d, 0x10]
  | .rl_atIXd_C d => [0xDD, 0xCB, d, 0x11]
  | .rl_atIXd_D d => [0xDD, 0xCB, d, 0x12]
  | .rl_atIXd_E d => [0xDD, 0xCB, d, 0x13]
  | .rl_atIXd_H d => [0xDD, 0xCB, d, 0x14]
  | .rl_atIXd_L d => [0xDD, 0xCB, d, 0x15]
  | .rl_atIXd d => [0xDD, 0xCB, d, 0x16]
  | .rl_atIXd_A d => [0xDD, 0xCB, d, 0x17]
  | .rr_atIXd_B d => [0xDD, 0xCB, d, 0x18]
  | .rr_atIXd_C d => [0xDD, 0xCB, d, 0x19]
  | .rr_atIXd_D d => [0xDD, 0xCB, d, 0x1A]
  | .rr_atIXd_E d => [0xDD, 0xCB, d, 0x1B]
  | .rr_atIXd_H d => [0xDD, 0xCB, d, 0x1C]
  | .rr_atIXd_L d => [0xDD, 0xCB, d, 0x1D]
  | .rr_atIXd d => [0xDD, 0xCB, d, 0x1E]
  | .rr_atIXd_A d => [0xDD, 0xCB, d, 0x1F]
  | .sla_atIXd_B d => [0xDD, 0xCB, d, 0x20]
  | .sla_atIXd_C d => [0xDD, 0xCB, d, 0x21]
  | .sla_atIXd_D d => [0xDD, 0xCB, d, 0x22]
  | .sla_atIXd_E d => [0xDD, 0xCB, d, 0x23]
  | .sla_atIXd_H d => [0xDD, 0xCB, d, 0x24]
  | .sla_atIXd_L d => [0xDD, 0xCB, d, 0x25]
  | .sla_atIXd d => [0xDD, 0xCB, d, 0x26]
  | .sla_atIXd_A d => [0xDD, 0xCB, d, 0x27]
  | .sra_atIXd_B d => [0xDD, 0xCB, d, 0x28]
  | .sra_atIXd_C d => [0xDD, 0xCB, d, 0x29]
  | .sra_atIXd_D d => [0xDD, 0xCB, d, 0x2A]
  | .sra_atIXd_E d => [0xDD, 0xCB, d, 0x2B]
  | .sra_atIXd_H d => [0xDD, 0xCB, d, 0x2C]
  | .sra_atIXd_L d => [0xDD, 0xCB, d, 0x2D]
  | .sra_atIXd d => [0xDD, 0xCB, d, 0x2E]
  | .sra_atIXd_A d => [0xDD, 0xCB, d, 0x2F]
  | .sll_atIXd_B d => [0xDD, 0xCB, d, 0x30]
  | .sll_atIXd_C d => [0xDD, 0xCB, d, 0x31]
  | .sll_atIXd_D d => [0xDD, 0xCB, d, 0x32]
  | .sll_atIXd_E d => [0xDD, 0xCB, d, 0x33]
  | .sll_atIXd_H d => [0xDD, 0xCB, d, 0x34]
  | .sll_atIXd_L d => [0xDD, 0xCB, d, 0x35]
  | .sll_atIXd d => [0xDD, 0xCB, d, 0x36]
  | .sll_atIXd_A d => [0xDD, 0xCB, d, 0x37]
  | .srl_atIXd_B d => [0xDD, 0xCB, d, 0x38]
  | .srl_atIXd_C d => [0xDD, 0xCB, d, 0x39]
  | .srl_atIXd_D d => [0xDD, 0xCB, d, 0x3A]
  | .srl_atIXd_E d => [0xDD, 0xCB, d, 0x3B]
  | .srl_atIXd_H d => [0xDD, 0xCB, d, 0x3C]
  | .srl_atIXd_L d => [0xDD, 0xCB, d, 0x3D]
  | .srl_atIXd d => [0xDD, 0xCB, d, 0x3E]
  | .srl_atIXd_A d => [0xDD, 0xCB, d, 0x3F]
  | .bit_0_atIXd d z => [0xDD, 0xCB, d, 0x40 + BitVec.ofNat 8 z.val]
  | .bit_1_atIXd d z => [0xDD, 0xCB, d, 0x48 + BitVec.ofNat 8 z.val]
  | .bit_2_atIXd d z => [0xDD, 0xCB, d, 0x50 + BitVec.ofNat 8 z.val]
  | .bit_3_atIXd d z => [0xDD, 0xCB, d, 0x58 + BitVec.ofNat 8 z.val]
  | .bit_4_atIXd d z => [0xDD, 0xCB, d, 0x60 + BitVec.ofNat 8 z.val]
  | .bit_5_atIXd d z => [0xDD, 0xCB, d, 0x68 + BitVec.ofNat 8 z.val]
  | .bit_6_atIXd d z => [0xDD, 0xCB, d, 0x70 + BitVec.ofNat 8 z.val]
  | .bit_7_atIXd d z => [0xDD, 0xCB, d, 0x78 + BitVec.ofNat 8 z.val]
  | .res_0_atIXd_B d => [0xDD, 0xCB, d, 0x80]
  | .res_0_atIXd_C d => [0xDD, 0xCB, d, 0x81]
  | .res_0_atIXd_D d => [0xDD, 0xCB, d, 0x82]
  | .res_0_atIXd_E d => [0xDD, 0xCB, d, 0x83]
  | .res_0_atIXd_H d => [0xDD, 0xCB, d, 0x84]
  | .res_0_atIXd_L d => [0xDD, 0xCB, d, 0x85]
  | .res_0_atIXd d => [0xDD, 0xCB, d, 0x86]
  | .res_0_atIXd_A d => [0xDD, 0xCB, d, 0x87]
  | .res_1_atIXd_B d => [0xDD, 0xCB, d, 0x88]
  | .res_1_atIXd_C d => [0xDD, 0xCB, d, 0x89]
  | .res_1_atIXd_D d => [0xDD, 0xCB, d, 0x8A]
  | .res_1_atIXd_E d => [0xDD, 0xCB, d, 0x8B]
  | .res_1_atIXd_H d => [0xDD, 0xCB, d, 0x8C]
  | .res_1_atIXd_L d => [0xDD, 0xCB, d, 0x8D]
  | .res_1_atIXd d => [0xDD, 0xCB, d, 0x8E]
  | .res_1_atIXd_A d => [0xDD, 0xCB, d, 0x8F]
  | .res_2_atIXd_B d => [0xDD, 0xCB, d, 0x90]
  | .res_2_atIXd_C d => [0xDD, 0xCB, d, 0x91]
  | .res_2_atIXd_D d => [0xDD, 0xCB, d, 0x92]
  | .res_2_atIXd_E d => [0xDD, 0xCB, d, 0x93]
  | .res_2_atIXd_H d => [0xDD, 0xCB, d, 0x94]
  | .res_2_atIXd_L d => [0xDD, 0xCB, d, 0x95]
  | .res_2_atIXd d => [0xDD, 0xCB, d, 0x96]
  | .res_2_atIXd_A d => [0xDD, 0xCB, d, 0x97]
  | .res_3_atIXd_B d => [0xDD, 0xCB, d, 0x98]
  | .res_3_atIXd_C d => [0xDD, 0xCB, d, 0x99]
  | .res_3_atIXd_D d => [0xDD, 0xCB, d, 0x9A]
  | .res_3_atIXd_E d => [0xDD, 0xCB, d, 0x9B]
  | .res_3_atIXd_H d => [0xDD, 0xCB, d, 0x9C]
  | .res_3_atIXd_L d => [0xDD, 0xCB, d, 0x9D]
  | .res_3_atIXd d => [0xDD, 0xCB, d, 0x9E]
  | .res_3_atIXd_A d => [0xDD, 0xCB, d, 0x9F]
  | .res_4_atIXd_B d => [0xDD, 0xCB, d, 0xA0]
  | .res_4_atIXd_C d => [0xDD, 0xCB, d, 0xA1]
  | .res_4_atIXd_D d => [0xDD, 0xCB, d, 0xA2]
  | .res_4_atIXd_E d => [0xDD, 0xCB, d, 0xA3]
  | .res_4_atIXd_H d => [0xDD, 0xCB, d, 0xA4]
  | .res_4_atIXd_L d => [0xDD, 0xCB, d, 0xA5]
  | .res_4_atIXd d => [0xDD, 0xCB, d, 0xA6]
  | .res_4_atIXd_A d => [0xDD, 0xCB, d, 0xA7]
  | .res_5_atIXd_B d => [0xDD, 0xCB, d, 0xA8]
  | .res_5_atIXd_C d => [0xDD, 0xCB, d, 0xA9]
  | .res_5_atIXd_D d => [0xDD, 0xCB, d, 0xAA]
  | .res_5_atIXd_E d => [0xDD, 0xCB, d, 0xAB]
  | .res_5_atIXd_H d => [0xDD, 0xCB, d, 0xAC]
  | .res_5_atIXd_L d => [0xDD, 0xCB, d, 0xAD]
  | .res_5_atIXd d => [0xDD, 0xCB, d, 0xAE]
  | .res_5_atIXd_A d => [0xDD, 0xCB, d, 0xAF]
  | .res_6_atIXd_B d => [0xDD, 0xCB, d, 0xB0]
  | .res_6_atIXd_C d => [0xDD, 0xCB, d, 0xB1]
  | .res_6_atIXd_D d => [0xDD, 0xCB, d, 0xB2]
  | .res_6_atIXd_E d => [0xDD, 0xCB, d, 0xB3]
  | .res_6_atIXd_H d => [0xDD, 0xCB, d, 0xB4]
  | .res_6_atIXd_L d => [0xDD, 0xCB, d, 0xB5]
  | .res_6_atIXd d => [0xDD, 0xCB, d, 0xB6]
  | .res_6_atIXd_A d => [0xDD, 0xCB, d, 0xB7]
  | .res_7_atIXd_B d => [0xDD, 0xCB, d, 0xB8]
  | .res_7_atIXd_C d => [0xDD, 0xCB, d, 0xB9]
  | .res_7_atIXd_D d => [0xDD, 0xCB, d, 0xBA]
  | .res_7_atIXd_E d => [0xDD, 0xCB, d, 0xBB]
  | .res_7_atIXd_H d => [0xDD, 0xCB, d, 0xBC]
  | .res_7_atIXd_L d => [0xDD, 0xCB, d, 0xBD]
  | .res_7_atIXd d => [0xDD, 0xCB, d, 0xBE]
  | .res_7_atIXd_A d => [0xDD, 0xCB, d, 0xBF]
  | .set_0_atIXd_B d => [0xDD, 0xCB, d, 0xC0]
  | .set_0_atIXd_C d => [0xDD, 0xCB, d, 0xC1]
  | .set_0_atIXd_D d => [0xDD, 0xCB, d, 0xC2]
  | .set_0_atIXd_E d => [0xDD, 0xCB, d, 0xC3]
  | .set_0_atIXd_H d => [0xDD, 0xCB, d, 0xC4]
  | .set_0_atIXd_L d => [0xDD, 0xCB, d, 0xC5]
  | .set_0_atIXd d => [0xDD, 0xCB, d, 0xC6]
  | .set_0_atIXd_A d => [0xDD, 0xCB, d, 0xC7]
  | .set_1_atIXd_B d => [0xDD, 0xCB, d, 0xC8]
  | .set_1_atIXd_C d => [0xDD, 0xCB, d, 0xC9]
  | .set_1_atIXd_D d => [0xDD, 0xCB, d, 0xCA]
  | .set_1_atIXd_E d => [0xDD, 0xCB, d, 0xCB]
  | .set_1_atIXd_H d => [0xDD, 0xCB, d, 0xCC]
  | .set_1_atIXd_L d => [0xDD, 0xCB, d, 0xCD]
  | .set_1_atIXd d => [0xDD, 0xCB, d, 0xCE]
  | .set_1_atIXd_A d => [0xDD, 0xCB, d, 0xCF]
  | .set_2_atIXd_B d => [0xDD, 0xCB, d, 0xD0]
  | .set_2_atIXd_C d => [0xDD, 0xCB, d, 0xD1]
  | .set_2_atIXd_D d => [0xDD, 0xCB, d, 0xD2]
  | .set_2_atIXd_E d => [0xDD, 0xCB, d, 0xD3]
  | .set_2_atIXd_H d => [0xDD, 0xCB, d, 0xD4]
  | .set_2_atIXd_L d => [0xDD, 0xCB, d, 0xD5]
  | .set_2_atIXd d => [0xDD, 0xCB, d, 0xD6]
  | .set_2_atIXd_A d => [0xDD, 0xCB, d, 0xD7]
  | .set_3_atIXd_B d => [0xDD, 0xCB, d, 0xD8]
  | .set_3_atIXd_C d => [0xDD, 0xCB, d, 0xD9]
  | .set_3_atIXd_D d => [0xDD, 0xCB, d, 0xDA]
  | .set_3_atIXd_E d => [0xDD, 0xCB, d, 0xDB]
  | .set_3_atIXd_H d => [0xDD, 0xCB, d, 0xDC]
  | .set_3_atIXd_L d => [0xDD, 0xCB, d, 0xDD]
  | .set_3_atIXd d => [0xDD, 0xCB, d, 0xDE]
  | .set_3_atIXd_A d => [0xDD, 0xCB, d, 0xDF]
  | .set_4_atIXd_B d => [0xDD, 0xCB, d, 0xE0]
  | .set_4_atIXd_C d => [0xDD, 0xCB, d, 0xE1]
  | .set_4_atIXd_D d => [0xDD, 0xCB, d, 0xE2]
  | .set_4_atIXd_E d => [0xDD, 0xCB, d, 0xE3]
  | .set_4_atIXd_H d => [0xDD, 0xCB, d, 0xE4]
  | .set_4_atIXd_L d => [0xDD, 0xCB, d, 0xE5]
  | .set_4_atIXd d => [0xDD, 0xCB, d, 0xE6]
  | .set_4_atIXd_A d => [0xDD, 0xCB, d, 0xE7]
  | .set_5_atIXd_B d => [0xDD, 0xCB, d, 0xE8]
  | .set_5_atIXd_C d => [0xDD, 0xCB, d, 0xE9]
  | .set_5_atIXd_D d => [0xDD, 0xCB, d, 0xEA]
  | .set_5_atIXd_E d => [0xDD, 0xCB, d, 0xEB]
  | .set_5_atIXd_H d => [0xDD, 0xCB, d, 0xEC]
  | .set_5_atIXd_L d => [0xDD, 0xCB, d, 0xED]
  | .set_5_atIXd d => [0xDD, 0xCB, d, 0xEE]
  | .set_5_atIXd_A d => [0xDD, 0xCB, d, 0xEF]
  | .set_6_atIXd_B d => [0xDD, 0xCB, d, 0xF0]
  | .set_6_atIXd_C d => [0xDD, 0xCB, d, 0xF1]
  | .set_6_atIXd_D d => [0xDD, 0xCB, d, 0xF2]
  | .set_6_atIXd_E d => [0xDD, 0xCB, d, 0xF3]
  | .set_6_atIXd_H d => [0xDD, 0xCB, d, 0xF4]
  | .set_6_atIXd_L d => [0xDD, 0xCB, d, 0xF5]
  | .set_6_atIXd d => [0xDD, 0xCB, d, 0xF6]
  | .set_6_atIXd_A d => [0xDD, 0xCB, d, 0xF7]
  | .set_7_atIXd_B d => [0xDD, 0xCB, d, 0xF8]
  | .set_7_atIXd_C d => [0xDD, 0xCB, d, 0xF9]
  | .set_7_atIXd_D d => [0xDD, 0xCB, d, 0xFA]
  | .set_7_atIXd_E d => [0xDD, 0xCB, d, 0xFB]
  | .set_7_atIXd_H d => [0xDD, 0xCB, d, 0xFC]
  | .set_7_atIXd_L d => [0xDD, 0xCB, d, 0xFD]
  | .set_7_atIXd d => [0xDD, 0xCB, d, 0xFE]
  | .set_7_atIXd_A d => [0xDD, 0xCB, d, 0xFF]
  | .rlc_atIYd_B d => [0xFD, 0xCB, d, 0x00]
  | .rlc_atIYd_C d => [0xFD, 0xCB, d, 0x01]
  | .rlc_atIYd_D d => [0xFD, 0xCB, d, 0x02]
  | .rlc_atIYd_E d => [0xFD, 0xCB, d, 0x03]
  | .rlc_atIYd_H d => [0xFD, 0xCB, d, 0x04]
  | .rlc_atIYd_L d => [0xFD, 0xCB, d, 0x05]
  | .rlc_atIYd d => [0xFD, 0xCB, d, 0x06]
  | .rlc_atIYd_A d => [0xFD, 0xCB, d, 0x07]
  | .rrc_atIYd_B d => [0xFD, 0xCB, d, 0x08]
  | .rrc_atIYd_C d => [0xFD, 0xCB, d, 0x09]
  | .rrc_atIYd_D d => [0xFD, 0xCB, d, 0x0A]
  | .rrc_atIYd_E d => [0xFD, 0xCB, d, 0x0B]
  | .rrc_atIYd_H d => [0xFD, 0xCB, d, 0x0C]
  | .rrc_atIYd_L d => [0xFD, 0xCB, d, 0x0D]
  | .rrc_atIYd d => [0xFD, 0xCB, d, 0x0E]
  | .rrc_atIYd_A d => [0xFD, 0xCB, d, 0x0F]
  | .rl_atIYd_B d => [0xFD, 0xCB, d, 0x10]
  | .rl_atIYd_C d => [0xFD, 0xCB, d, 0x11]
  | .rl_atIYd_D d => [0xFD, 0xCB, d, 0x12]
  | .rl_atIYd_E d => [0xFD, 0xCB, d, 0x13]
  | .rl_atIYd_H d => [0xFD, 0xCB, d, 0x14]
  | .rl_atIYd_L d => [0xFD, 0xCB, d, 0x15]
  | .rl_atIYd d => [0xFD, 0xCB, d, 0x16]
  | .rl_atIYd_A d => [0xFD, 0xCB, d, 0x17]
  | .rr_atIYd_B d => [0xFD, 0xCB, d, 0x18]
  | .rr_atIYd_C d => [0xFD, 0xCB, d, 0x19]
  | .rr_atIYd_D d => [0xFD, 0xCB, d, 0x1A]
  | .rr_atIYd_E d => [0xFD, 0xCB, d, 0x1B]
  | .rr_atIYd_H d => [0xFD, 0xCB, d, 0x1C]
  | .rr_atIYd_L d => [0xFD, 0xCB, d, 0x1D]
  | .rr_atIYd d => [0xFD, 0xCB, d, 0x1E]
  | .rr_atIYd_A d => [0xFD, 0xCB, d, 0x1F]
  | .sla_atIYd_B d => [0xFD, 0xCB, d, 0x20]
  | .sla_atIYd_C d => [0xFD, 0xCB, d, 0x21]
  | .sla_atIYd_D d => [0xFD, 0xCB, d, 0x22]
  | .sla_atIYd_E d => [0xFD, 0xCB, d, 0x23]
  | .sla_atIYd_H d => [0xFD, 0xCB, d, 0x24]
  | .sla_atIYd_L d => [0xFD, 0xCB, d, 0x25]
  | .sla_atIYd d => [0xFD, 0xCB, d, 0x26]
  | .sla_atIYd_A d => [0xFD, 0xCB, d, 0x27]
  | .sra_atIYd_B d => [0xFD, 0xCB, d, 0x28]
  | .sra_atIYd_C d => [0xFD, 0xCB, d, 0x29]
  | .sra_atIYd_D d => [0xFD, 0xCB, d, 0x2A]
  | .sra_atIYd_E d => [0xFD, 0xCB, d, 0x2B]
  | .sra_atIYd_H d => [0xFD, 0xCB, d, 0x2C]
  | .sra_atIYd_L d => [0xFD, 0xCB, d, 0x2D]
  | .sra_atIYd d => [0xFD, 0xCB, d, 0x2E]
  | .sra_atIYd_A d => [0xFD, 0xCB, d, 0x2F]
  | .sll_atIYd_B d => [0xFD, 0xCB, d, 0x30]
  | .sll_atIYd_C d => [0xFD, 0xCB, d, 0x31]
  | .sll_atIYd_D d => [0xFD, 0xCB, d, 0x32]
  | .sll_atIYd_E d => [0xFD, 0xCB, d, 0x33]
  | .sll_atIYd_H d => [0xFD, 0xCB, d, 0x34]
  | .sll_atIYd_L d => [0xFD, 0xCB, d, 0x35]
  | .sll_atIYd d => [0xFD, 0xCB, d, 0x36]
  | .sll_atIYd_A d => [0xFD, 0xCB, d, 0x37]
  | .srl_atIYd_B d => [0xFD, 0xCB, d, 0x38]
  | .srl_atIYd_C d => [0xFD, 0xCB, d, 0x39]
  | .srl_atIYd_D d => [0xFD, 0xCB, d, 0x3A]
  | .srl_atIYd_E d => [0xFD, 0xCB, d, 0x3B]
  | .srl_atIYd_H d => [0xFD, 0xCB, d, 0x3C]
  | .srl_atIYd_L d => [0xFD, 0xCB, d, 0x3D]
  | .srl_atIYd d => [0xFD, 0xCB, d, 0x3E]
  | .srl_atIYd_A d => [0xFD, 0xCB, d, 0x3F]
  | .bit_0_atIYd d z => [0xFD, 0xCB, d, 0x40 + BitVec.ofNat 8 z.val]
  | .bit_1_atIYd d z => [0xFD, 0xCB, d, 0x48 + BitVec.ofNat 8 z.val]
  | .bit_2_atIYd d z => [0xFD, 0xCB, d, 0x50 + BitVec.ofNat 8 z.val]
  | .bit_3_atIYd d z => [0xFD, 0xCB, d, 0x58 + BitVec.ofNat 8 z.val]
  | .bit_4_atIYd d z => [0xFD, 0xCB, d, 0x60 + BitVec.ofNat 8 z.val]
  | .bit_5_atIYd d z => [0xFD, 0xCB, d, 0x68 + BitVec.ofNat 8 z.val]
  | .bit_6_atIYd d z => [0xFD, 0xCB, d, 0x70 + BitVec.ofNat 8 z.val]
  | .bit_7_atIYd d z => [0xFD, 0xCB, d, 0x78 + BitVec.ofNat 8 z.val]
  | .res_0_atIYd_B d => [0xFD, 0xCB, d, 0x80]
  | .res_0_atIYd_C d => [0xFD, 0xCB, d, 0x81]
  | .res_0_atIYd_D d => [0xFD, 0xCB, d, 0x82]
  | .res_0_atIYd_E d => [0xFD, 0xCB, d, 0x83]
  | .res_0_atIYd_H d => [0xFD, 0xCB, d, 0x84]
  | .res_0_atIYd_L d => [0xFD, 0xCB, d, 0x85]
  | .res_0_atIYd d => [0xFD, 0xCB, d, 0x86]
  | .res_0_atIYd_A d => [0xFD, 0xCB, d, 0x87]
  | .res_1_atIYd_B d => [0xFD, 0xCB, d, 0x88]
  | .res_1_atIYd_C d => [0xFD, 0xCB, d, 0x89]
  | .res_1_atIYd_D d => [0xFD, 0xCB, d, 0x8A]
  | .res_1_atIYd_E d => [0xFD, 0xCB, d, 0x8B]
  | .res_1_atIYd_H d => [0xFD, 0xCB, d, 0x8C]
  | .res_1_atIYd_L d => [0xFD, 0xCB, d, 0x8D]
  | .res_1_atIYd d => [0xFD, 0xCB, d, 0x8E]
  | .res_1_atIYd_A d => [0xFD, 0xCB, d, 0x8F]
  | .res_2_atIYd_B d => [0xFD, 0xCB, d, 0x90]
  | .res_2_atIYd_C d => [0xFD, 0xCB, d, 0x91]
  | .res_2_atIYd_D d => [0xFD, 0xCB, d, 0x92]
  | .res_2_atIYd_E d => [0xFD, 0xCB, d, 0x93]
  | .res_2_atIYd_H d => [0xFD, 0xCB, d, 0x94]
  | .res_2_atIYd_L d => [0xFD, 0xCB, d, 0x95]
  | .res_2_atIYd d => [0xFD, 0xCB, d, 0x96]
  | .res_2_atIYd_A d => [0xFD, 0xCB, d, 0x97]
  | .res_3_atIYd_B d => [0xFD, 0xCB, d, 0x98]
  | .res_3_atIYd_C d => [0xFD, 0xCB, d, 0x99]
  | .res_3_atIYd_D d => [0xFD, 0xCB, d, 0x9A]
  | .res_3_atIYd_E d => [0xFD, 0xCB, d, 0x9B]
  | .res_3_atIYd_H d => [0xFD, 0xCB, d, 0x9C]
  | .res_3_atIYd_L d => [0xFD, 0xCB, d, 0x9D]
  | .res_3_atIYd d => [0xFD, 0xCB, d, 0x9E]
  | .res_3_atIYd_A d => [0xFD, 0xCB, d, 0x9F]
  | .res_4_atIYd_B d => [0xFD, 0xCB, d, 0xA0]
  | .res_4_atIYd_C d => [0xFD, 0xCB, d, 0xA1]
  | .res_4_atIYd_D d => [0xFD, 0xCB, d, 0xA2]
  | .res_4_atIYd_E d => [0xFD, 0xCB, d, 0xA3]
  | .res_4_atIYd_H d => [0xFD, 0xCB, d, 0xA4]
  | .res_4_atIYd_L d => [0xFD, 0xCB, d, 0xA5]
  | .res_4_atIYd d => [0xFD, 0xCB, d, 0xA6]
  | .res_4_atIYd_A d => [0xFD, 0xCB, d, 0xA7]
  | .res_5_atIYd_B d => [0xFD, 0xCB, d, 0xA8]
  | .res_5_atIYd_C d => [0xFD, 0xCB, d, 0xA9]
  | .res_5_atIYd_D d => [0xFD, 0xCB, d, 0xAA]
  | .res_5_atIYd_E d => [0xFD, 0xCB, d, 0xAB]
  | .res_5_atIYd_H d => [0xFD, 0xCB, d, 0xAC]
  | .res_5_atIYd_L d => [0xFD, 0xCB, d, 0xAD]
  | .res_5_atIYd d => [0xFD, 0xCB, d, 0xAE]
  | .res_5_atIYd_A d => [0xFD, 0xCB, d, 0xAF]
  | .res_6_atIYd_B d => [0xFD, 0xCB, d, 0xB0]
  | .res_6_atIYd_C d => [0xFD, 0xCB, d, 0xB1]
  | .res_6_atIYd_D d => [0xFD, 0xCB, d, 0xB2]
  | .res_6_atIYd_E d => [0xFD, 0xCB, d, 0xB3]
  | .res_6_atIYd_H d => [0xFD, 0xCB, d, 0xB4]
  | .res_6_atIYd_L d => [0xFD, 0xCB, d, 0xB5]
  | .res_6_atIYd d => [0xFD, 0xCB, d, 0xB6]
  | .res_6_atIYd_A d => [0xFD, 0xCB, d, 0xB7]
  | .res_7_atIYd_B d => [0xFD, 0xCB, d, 0xB8]
  | .res_7_atIYd_C d => [0xFD, 0xCB, d, 0xB9]
  | .res_7_atIYd_D d => [0xFD, 0xCB, d, 0xBA]
  | .res_7_atIYd_E d => [0xFD, 0xCB, d, 0xBB]
  | .res_7_atIYd_H d => [0xFD, 0xCB, d, 0xBC]
  | .res_7_atIYd_L d => [0xFD, 0xCB, d, 0xBD]
  | .res_7_atIYd d => [0xFD, 0xCB, d, 0xBE]
  | .res_7_atIYd_A d => [0xFD, 0xCB, d, 0xBF]
  | .set_0_atIYd_B d => [0xFD, 0xCB, d, 0xC0]
  | .set_0_atIYd_C d => [0xFD, 0xCB, d, 0xC1]
  | .set_0_atIYd_D d => [0xFD, 0xCB, d, 0xC2]
  | .set_0_atIYd_E d => [0xFD, 0xCB, d, 0xC3]
  | .set_0_atIYd_H d => [0xFD, 0xCB, d, 0xC4]
  | .set_0_atIYd_L d => [0xFD, 0xCB, d, 0xC5]
  | .set_0_atIYd d => [0xFD, 0xCB, d, 0xC6]
  | .set_0_atIYd_A d => [0xFD, 0xCB, d, 0xC7]
  | .set_1_atIYd_B d => [0xFD, 0xCB, d, 0xC8]
  | .set_1_atIYd_C d => [0xFD, 0xCB, d, 0xC9]
  | .set_1_atIYd_D d => [0xFD, 0xCB, d, 0xCA]
  | .set_1_atIYd_E d => [0xFD, 0xCB, d, 0xCB]
  | .set_1_atIYd_H d => [0xFD, 0xCB, d, 0xCC]
  | .set_1_atIYd_L d => [0xFD, 0xCB, d, 0xCD]
  | .set_1_atIYd d => [0xFD, 0xCB, d, 0xCE]
  | .set_1_atIYd_A d => [0xFD, 0xCB, d, 0xCF]
  | .set_2_atIYd_B d => [0xFD, 0xCB, d, 0xD0]
  | .set_2_atIYd_C d => [0xFD, 0xCB, d, 0xD1]
  | .set_2_atIYd_D d => [0xFD, 0xCB, d, 0xD2]
  | .set_2_atIYd_E d => [0xFD, 0xCB, d, 0xD3]
  | .set_2_atIYd_H d => [0xFD, 0xCB, d, 0xD4]
  | .set_2_atIYd_L d => [0xFD, 0xCB, d, 0xD5]
  | .set_2_atIYd d => [0xFD, 0xCB, d, 0xD6]
  | .set_2_atIYd_A d => [0xFD, 0xCB, d, 0xD7]
  | .set_3_atIYd_B d => [0xFD, 0xCB, d, 0xD8]
  | .set_3_atIYd_C d => [0xFD, 0xCB, d, 0xD9]
  | .set_3_atIYd_D d => [0xFD, 0xCB, d, 0xDA]
  | .set_3_atIYd_E d => [0xFD, 0xCB, d, 0xDB]
  | .set_3_atIYd_H d => [0xFD, 0xCB, d, 0xDC]
  | .set_3_atIYd_L d => [0xFD, 0xCB, d, 0xDD]
  | .set_3_atIYd d => [0xFD, 0xCB, d, 0xDE]
  | .set_3_atIYd_A d => [0xFD, 0xCB, d, 0xDF]
  | .set_4_atIYd_B d => [0xFD, 0xCB, d, 0xE0]
  | .set_4_atIYd_C d => [0xFD, 0xCB, d, 0xE1]
  | .set_4_atIYd_D d => [0xFD, 0xCB, d, 0xE2]
  | .set_4_atIYd_E d => [0xFD, 0xCB, d, 0xE3]
  | .set_4_atIYd_H d => [0xFD, 0xCB, d, 0xE4]
  | .set_4_atIYd_L d => [0xFD, 0xCB, d, 0xE5]
  | .set_4_atIYd d => [0xFD, 0xCB, d, 0xE6]
  | .set_4_atIYd_A d => [0xFD, 0xCB, d, 0xE7]
  | .set_5_atIYd_B d => [0xFD, 0xCB, d, 0xE8]
  | .set_5_atIYd_C d => [0xFD, 0xCB, d, 0xE9]
  | .set_5_atIYd_D d => [0xFD, 0xCB, d, 0xEA]
  | .set_5_atIYd_E d => [0xFD, 0xCB, d, 0xEB]
  | .set_5_atIYd_H d => [0xFD, 0xCB, d, 0xEC]
  | .set_5_atIYd_L d => [0xFD, 0xCB, d, 0xED]
  | .set_5_atIYd d => [0xFD, 0xCB, d, 0xEE]
  | .set_5_atIYd_A d => [0xFD, 0xCB, d, 0xEF]
  | .set_6_atIYd_B d => [0xFD, 0xCB, d, 0xF0]
  | .set_6_atIYd_C d => [0xFD, 0xCB, d, 0xF1]
  | .set_6_atIYd_D d => [0xFD, 0xCB, d, 0xF2]
  | .set_6_atIYd_E d => [0xFD, 0xCB, d, 0xF3]
  | .set_6_atIYd_H d => [0xFD, 0xCB, d, 0xF4]
  | .set_6_atIYd_L d => [0xFD, 0xCB, d, 0xF5]
  | .set_6_atIYd d => [0xFD, 0xCB, d, 0xF6]
  | .set_6_atIYd_A d => [0xFD, 0xCB, d, 0xF7]
  | .set_7_atIYd_B d => [0xFD, 0xCB, d, 0xF8]
  | .set_7_atIYd_C d => [0xFD, 0xCB, d, 0xF9]
  | .set_7_atIYd_D d => [0xFD, 0xCB, d, 0xFA]
  | .set_7_atIYd_E d => [0xFD, 0xCB, d, 0xFB]
  | .set_7_atIYd_H d => [0xFD, 0xCB, d, 0xFC]
  | .set_7_atIYd_L d => [0xFD, 0xCB, d, 0xFD]
  | .set_7_atIYd d => [0xFD, 0xCB, d, 0xFE]
  | .set_7_atIYd_A d => [0xFD, 0xCB, d, 0xFF]

end Sys2Proof
end

