-- ==== Sys2Proof/Config.lean ====
section
/-! DEFINITION. What an implementation fixes and what the spec leaves free: the bus events of a
step (20_memory.md rule R86), the parameters of 00_scope.md rule R6, and the two oracles. -/

namespace Sys2Proof

/-- A bus event or output pulse of a step (20_memory.md rule R86, 60_exceptions.md rules R507 and R520). -/
inductive Event where
  /-- An instruction byte read; `m1` for an opcode (M1) fetch. -/
  | fetch (addr : Word) (value : Byte) (m1 : Bool)
  /-- A data byte read from memory. -/
  | read (addr : Word) (value : Byte)
  /-- A data byte written to memory. -/
  | write (addr : Word) (value : Byte)
  /-- A byte read from a port. -/
  | input (port : Word) (value : Byte)
  /-- A byte written to a port. -/
  | output (port : Word) (value : Byte)
  /-- The data byte of a maskable-interrupt acknowledge. -/
  | intAck (value : Byte)
  /-- The RETI output pulse. -/
  | signalReti
deriving DecidableEq, Repr

/-- `BUS_MODEL`: what a memory read returns (20_memory.md rule R72). -/
inductive BusModel where
  | ram
  | oracle
deriving DecidableEq, Repr

/-- `CP_XY_SOURCE`: where CP takes Y and X from (42_alu8.md rule R273). -/
inductive CpXySource where
  | result
  | operand
deriving DecidableEq, Repr

/-- `BIT_HL_XY_SOURCE`: where BIT b,(HL) takes Y and X from (44_rotate_shift_bit.md rule R335). -/
inductive BitHlXySource where
  | operand
  | wzHigh
deriving DecidableEq, Repr

/-- `DDCB_REG_COPY`: which indexed CB forms also write a register (44_rotate_shift_bit.md rule R341). -/
inductive DdcbRegCopy where
  | doc
  | all
  | none
deriving DecidableEq, Repr

/-- The parameters of 00_scope.md rule R6 that a model takes as an argument. They are fixed for a
run: no step writes them (log entry 4). -/
structure Params where
  busModel : BusModel
  cpXy : CpXySource
  bitHlXy : BitHlXySource
  ddcbCopy : DdcbRegCopy
  outCZero : Byte
deriving DecidableEq, Repr

/-- The value 00_scope.md rule R6 gives each parameter. -/
def Params.specDefault : Params :=
  { busModel := .ram, cpXy := .result, bitHlXy := .operand, ddcbCopy := .doc, outCZero := 0x00 }

/-- `IO_READ` (00_scope.md rule R6, 20_memory.md rule R72): the byte an I/O read returns, from the
history of events (newest first) and the port. A free value: no body, no law (log entry 3). -/
opaque Config.ioRead : List Event → Word → Byte

/-- The byte a memory read returns under `BUS_MODEL = oracle`, from the history (newest first) and
the address (20_memory.md rule R72). A free value: no body, no law (log entry 3). -/
opaque Config.busRead : List Event → Word → Byte

end Sys2Proof
end

