-- ==== Sys2Proof/Machine/State.lean ====
section
/-! DEFINITION. The core's whole state as plain data (10_state.md), the reasons a step can stop, and
the state right after reset (10_state.md rule R49). -/

namespace Sys2Proof.Machine

/-- The interrupt mode, 0, 1 or 2 (10_state.md rule R42). -/
inductive IntMode where
  | im0
  | im1
  | im2
deriving DecidableEq, Repr

/-- Memory: (address, byte) pairs with strictly rising addresses below 65,536, none holding what an
unlisted address reads as (20_memory.md rules R70, R72). -/
abbrev Memory := List Host.Cell

/-- What an address that is not listed reads as: the spec gives no contents of memory at power-on
(DESIGN CHOICE, unsafe, log entry 2). -/
def Memory.unlisted : Byte := 0x00

/-- One set of the eight 8-bit registers (10_state.md rules R30, R32). -/
structure Bank where
  a : Byte
  f : Byte
  b : Byte
  c : Byte
  d : Byte
  e : Byte
  h : Byte
  l : Byte
deriving DecidableEq, Repr

/-- The state of the core, its memory, its event history, and the inputs and parameters of a step. -/
structure State where
  /-- A, F, B, C, D, E, H, L (rule R30). -/
  main : Bank
  /-- The shadow set (rule R32). -/
  shadow : Bank
  /-- Rule R33. -/
  ix : Word
  /-- Rule R33. -/
  iy : Word
  /-- Rule R34. -/
  sp : Word
  /-- Rule R35. -/
  pc : Word
  /-- The hidden MEMPTR register (rule R38). -/
  wz : Word
  /-- The interrupt-vector register I (rule R36). -/
  i : Byte
  /-- The refresh register R (rule R37). -/
  r : Byte
  /-- Rule R41. -/
  iff1 : Bool
  /-- Rule R41. -/
  iff2 : Bool
  /-- Rule R42. -/
  im : IntMode
  /-- Rule R43. -/
  halted : Bool
  /-- The EI shadow (rule R44). -/
  eiPending : Bool
  /-- The pending prefix (rule R45). -/
  indexMode : IndexMode
  /-- The NMI latch (rule R46). -/
  nmiPending : Bool
  /-- Elapsed T-states (rule R47; informative). -/
  ticks : Nat
  /-- 20_memory.md rule R70. -/
  mem : Memory
  /-- The bus events so far, newest first (20_memory.md rule R86). -/
  history : List Event
  /-- The INT line the host presents for the next step (60_exceptions.md rule R504; log entry 5). -/
  intLine : Bool
  /-- The interrupt data byte the host presents for the next step (60_exceptions.md rule R504; log entry 5). -/
  intData : Byte
  /-- The parameters of 00_scope.md rule R6 (log entry 4). -/
  params : Params
deriving DecidableEq, Repr

/-- Reasons a step stops with a fault: none. The core has no exception, trap or fault
(60_exceptions.md rule R501), so no constructor exists and no step can fault. -/
inductive Fault where
deriving DecidableEq, Repr

/-- Reasons a step gives an input no meaning. -/
inductive Refusal where
  /-- Raised by an arm of `exec` for an instruction not yet modelled; safe. No arm raises it. -/
  | notModelled (mnemonic : String)
  /-- `refuse IM0-data(v)`: raised by the acceptance of a maskable interrupt in mode 0 whose data byte
  is not a one-byte main-table instruction (60_exceptions.md rules R508, R512); safe, it is the spec's
  own refusal. -/
  | im0Data (v : Byte)
deriving DecidableEq, Repr

/-- What one instruction or one step answers. -/
abbrev Outcome := Host.Outcome State Fault Refusal

/-- The `RESET_FILL` draws: a value for each register that reset leaves unspecified
(10_state.md rule R49, 92_eei_decisions.md D8). -/
structure ResetFill where
  main : Bank
  shadow : Bank
  ix : Word
  iy : Word
  sp : Word
  wz : Word
deriving DecidableEq, Repr

/-- A register set of zeros. -/
def Bank.zero : Bank := { a := 0, f := 0, b := 0, c := 0, d := 0, e := 0, h := 0, l := 0 }

/-- The draws `State.reset` takes (DESIGN CHOICE, unsafe, log entry 1). -/
def ResetFill.zero : ResetFill :=
  { main := Bank.zero, shadow := Bank.zero, ix := 0, iy := 0, sp := 0, wz := 0 }

/-- The machine right after reset (10_state.md rule R49), with every `RESET_FILL` draw 0, nothing
listed in memory, no event recorded, the INT line not asserted and the parameters at the values of
00_scope.md rule R6. -/
def State.reset : State :=
  { main := ResetFill.zero.main, shadow := ResetFill.zero.shadow
    ix := ResetFill.zero.ix, iy := ResetFill.zero.iy, sp := ResetFill.zero.sp
    pc := 0x0000, wz := ResetFill.zero.wz, i := 0x00, r := 0x00
    iff1 := false, iff2 := false, im := .im0, halted := false, eiPending := false
    indexMode := .hl, nmiPending := false, ticks := 0
    mem := [], history := [], intLine := false, intData := 0x00
    params := Params.specDefault }

end Sys2Proof.Machine
end

