-- ==== Sys2Proof/Machine/Flags.lean ====
section
/-! DEFINITION. The flag byte and every flag computation of the spec: 10_state.md rule R39,
42_alu8.md rules R260 to R265, 43_alu16.md rules R300 to R302, 44_rotate_shift_bit.md rules R320 to
R324, R334, R342, R345, and 45_block.md rules R360 to R363. -/

namespace Sys2Proof.Machine

/-! ### The flag byte SZYHXPNC (10_state.md rule R39) -/

/-- The byte whose bits from 7 down are the given flags. -/
def packF (s z y h x pv n c : Bool) : Byte :=
  BitVec.ofBool s ++ BitVec.ofBool z ++ BitVec.ofBool y ++ BitVec.ofBool h ++
    BitVec.ofBool x ++ BitVec.ofBool pv ++ BitVec.ofBool n ++ BitVec.ofBool c

def flagS (f : Byte) : Bool := f.getLsbD 7
def flagZ (f : Byte) : Bool := f.getLsbD 6
def flagY (f : Byte) : Bool := f.getLsbD 5
def flagH (f : Byte) : Bool := f.getLsbD 4
def flagX (f : Byte) : Bool := f.getLsbD 3
def flagPV (f : Byte) : Bool := f.getLsbD 2
def flagN (f : Byte) : Bool := f.getLsbD 1
def flagC (f : Byte) : Bool := f.getLsbD 0

/-- `parity(v)`: an even number of one bits (00_scope.md rule R7). -/
def parity (v : Byte) : Bool :=
  !(v.getLsbD 0 ^^ v.getLsbD 1 ^^ v.getLsbD 2 ^^ v.getLsbD 3 ^^
    v.getLsbD 4 ^^ v.getLsbD 5 ^^ v.getLsbD 6 ^^ v.getLsbD 7)

/-- A condition of table `cc` against F (30_encoding.md rule R104). -/
def condHolds (k : Cond) (f : Byte) : Bool :=
  match k with
  | .nz => !flagZ f
  | .z => flagZ f
  | .nc => !flagC f
  | .c => flagC f
  | .po => !flagPV f
  | .pe => flagPV f
  | .p => !flagS f
  | .m => flagS f

/-! ### 8-bit arithmetic -/

/-- The carry-in as a 9-bit number. -/
def carryIn (c : Bool) : BitVec 9 := (BitVec.ofBool c).setWidth 9

/-- The result and flags of an 8-bit operation from its 9-bit intermediate `res` (rules R261, R262). -/
def arith8 (a b : Byte) (res : BitVec 9) (pv n : Bool) : Byte × Byte :=
  let r : Byte := res.setWidth 8
  (r, packF (r.getLsbD 7) (r == 0) (r.getLsbD 5) ((a ^^^ b ^^^ r).getLsbD 4) (r.getLsbD 3) pv n
    (res.getLsbD 8))

/-- `ADD8(a, b, c)`: result and flag byte (42_alu8.md rule R261). -/
def add8 (a b : Byte) (c : Bool) : Byte × Byte :=
  let res : BitVec 9 := a.setWidth 9 + b.setWidth 9 + carryIn c
  let r : Byte := res.setWidth 8
  arith8 a b res (((a ^^^ b ^^^ 0x80#8) &&& (b ^^^ r)).getLsbD 7) false

/-- `SUB8(a, b, c)`: result and flag byte (42_alu8.md rule R262). -/
def sub8 (a b : Byte) (c : Bool) : Byte × Byte :=
  let res : BitVec 9 := a.setWidth 9 - b.setWidth 9 - carryIn c
  let r : Byte := res.setWidth 8
  arith8 a b res (((a ^^^ b) &&& (a ^^^ r)).getLsbD 7) true

/-- `SZP(v)` with the given H, N and C (42_alu8.md rule R260). -/
def szp (v : Byte) (h n c : Bool) : Byte :=
  packF (v.getLsbD 7) (v == 0) (v.getLsbD 5) h (v.getLsbD 3) (parity v) n c

/-- The flags of AND (42_alu8.md rule R263). -/
def andFlags (r : Byte) : Byte := szp r true false false

/-- The flags of XOR and OR (42_alu8.md rule R263). -/
def orFlags (r : Byte) : Byte := szp r false false false

/-- CP's flag byte: SUB's, with Y and X from the source the parameter names (42_alu8.md rule R273). -/
def cpFlags (src : CpXySource) (a b : Byte) : Byte :=
  let r := sub8 a b false
  match src with
  | .result => r.2
  | .operand => (r.2 &&& ~~~0x28#8) ||| (b &&& 0x28#8)

/-- `INC8(v, F)` (42_alu8.md rule R264). -/
def inc8 (v f : Byte) : Byte × Byte :=
  let r := v + 1
  (r, packF (r.getLsbD 7) (r == 0) (r.getLsbD 5) ((v &&& 0x0F#8) == 0x0F#8) (r.getLsbD 3) (v == 0x7F#8)
    false (flagC f))

/-- `DEC8(v, F)` (42_alu8.md rule R265). -/
def dec8 (v f : Byte) : Byte × Byte :=
  let r := v - 1
  (r, packF (r.getLsbD 7) (r == 0) (r.getLsbD 5) ((v &&& 0x0F#8) == 0x00#8) (r.getLsbD 3) (v == 0x80#8)
    true (flagC f))

/-- DAA corrects by 0x60 (42_alu8.md rule R278). -/
def daaHigh (a f : Byte) : Bool := flagC f || decide (0x99 < a.toNat)

/-- DAA corrects by 0x06 (42_alu8.md rule R278). -/
def daaLow (a f : Byte) : Bool := flagH f || decide (9 < (a &&& 0x0F#8).toNat)

/-- DAA: result and flag byte (42_alu8.md rule R278). -/
def daa8 (a f : Byte) : Byte × Byte :=
  let diff : Byte := (if daaLow a f then 0x06#8 else 0) ||| (if daaHigh a f then 0x60#8 else 0)
  let r := if flagN f then a - diff else a + diff
  (r, szp r ((a ^^^ r).getLsbD 4) (flagN f) (daaHigh a f))

/-- The flags of CPL for the new A (42_alu8.md rule R279). -/
def cplFlags (a f : Byte) : Byte :=
  packF (flagS f) (flagZ f) (a.getLsbD 5) true (a.getLsbD 3) (flagPV f) true (flagC f)

/-- S, Z and PV kept, Y and X from A, N = 0, with the given H and C: SCF, CCF and the accumulator
rotates (42_alu8.md rules R281, R282; 44_rotate_shift_bit.md rules R320 to R323). -/
def accFlags (a f : Byte) (h c : Bool) : Byte :=
  packF (flagS f) (flagZ f) (a.getLsbD 5) h (a.getLsbD 3) (flagPV f) false c

/-- The flags of LD A,I and LD A,R for the loaded byte (40_load8.md rules R216, R217). -/
def loadIrFlags (v f : Byte) (iff2 : Bool) : Byte :=
  packF (v.getLsbD 7) (v == 0) (v.getLsbD 5) false (v.getLsbD 3) iff2 false (flagC f)

/-- `(F & 0x01) | SZP(v)`: IN r,(C), IN F,(C), RLD and RRD (46_io.md rule R387, 44_rotate_shift_bit.md rule R345). -/
def szpKeepC (v f : Byte) : Byte := szp v false false (flagC f)

/-! ### 16-bit arithmetic -/

/-- The carry-in as a 17-bit number. -/
def carryIn17 (c : Bool) : BitVec 17 := (BitVec.ofBool c).setWidth 17

/-- `ADD16(a, b, F)`: S, Z and PV kept (43_alu16.md rule R300). -/
def add16 (a b : Word) (f : Byte) : Word × Byte :=
  let res : BitVec 17 := a.setWidth 17 + b.setWidth 17
  let r : Word := res.setWidth 16
  (r, packF (flagS f) (flagZ f) (r.getLsbD 13) ((a ^^^ b ^^^ r).getLsbD 12) (r.getLsbD 11) (flagPV f) false
    (res.getLsbD 16))

/-- `ADC16(a, b, c)` (43_alu16.md rule R301). -/
def adc16 (a b : Word) (c : Bool) : Word × Byte :=
  let res : BitVec 17 := a.setWidth 17 + b.setWidth 17 + carryIn17 c
  let r : Word := res.setWidth 16
  (r, packF (r.getLsbD 15) (r == 0) (r.getLsbD 13) ((a ^^^ b ^^^ r).getLsbD 12) (r.getLsbD 11)
    (((a ^^^ b ^^^ 0x8000#16) &&& (b ^^^ r)).getLsbD 15) false (res.getLsbD 16))

/-- `SBC16(a, b, c)` (43_alu16.md rule R302). -/
def sbc16 (a b : Word) (c : Bool) : Word × Byte :=
  let res : BitVec 17 := a.setWidth 17 - b.setWidth 17 - carryIn17 c
  let r : Word := res.setWidth 16
  (r, packF (r.getLsbD 15) (r == 0) (r.getLsbD 13) ((a ^^^ b ^^^ r).getLsbD 12) (r.getLsbD 11)
    (((a ^^^ b) &&& (a ^^^ r)).getLsbD 15) true (res.getLsbD 16))

/-! ### Rotates, shifts and bit tests -/

/-- The result column of table `rot` for the carry-in `c` (44_rotate_shift_bit.md rule R324). -/
def rotResult (op : RotOp) (v : Byte) (c : Bool) : Byte :=
  let cb (b : Bool) : Byte := (BitVec.ofBool b).setWidth 8
  match op with
  | .rlc => (v <<< 1) ||| cb (v.getLsbD 7)
  | .rrc => (v >>> 1) ||| (cb (v.getLsbD 0) <<< 7)
  | .rl => (v <<< 1) ||| cb c
  | .rr => (v >>> 1) ||| (cb c <<< 7)
  | .sla => v <<< 1
  | .sra => (v >>> 1) ||| (v &&& 0x80#8)
  | .sll => (v <<< 1) ||| 0x01#8
  | .srl => v >>> 1

/-- The carry-out column of table `rot` (44_rotate_shift_bit.md rule R324). -/
def rotCarry (op : RotOp) (v : Byte) : Bool :=
  match op with
  | .rlc | .rl | .sla | .sll => v.getLsbD 7
  | .rrc | .rr | .sra | .srl => v.getLsbD 0

/-- `ROT(y, v, F)`: result and flag byte (44_rotate_shift_bit.md rule R324). -/
def rot8 (op : RotOp) (v f : Byte) : Byte × Byte :=
  let r := rotResult op v (flagC f)
  (r, szp r false false (rotCarry op v))

/-- The flags of BIT b on byte `v`, with Y and X from byte `xy` (44_rotate_shift_bit.md rules R334, R335, R342). -/
def bitFlags (b : Fin 8) (v f xy : Byte) : Byte :=
  let t := v.getLsbD b.val
  packF (b.val == 7 && t) (!t) (xy.getLsbD 5) true (xy.getLsbD 3) (!t) false (flagC f)

/-! ### Block instructions -/

/-- The flags of one transfer iteration: byte moved, A, old F, BC after the decrement (45_block.md rule R360). -/
def ldxFlags (v a f : Byte) (bc : Word) : Byte :=
  let n := v + a
  packF (flagS f) (flagZ f) (n.getLsbD 1) false (n.getLsbD 3) (bc != 0) false (flagC f)

/-- The flags of one compare iteration: A, byte read, old F, BC after the decrement (45_block.md rule R361). -/
def cpxFlags (a v f : Byte) (bc : Word) : Byte :=
  let r := a - v
  let h := decide ((a &&& 0x0F#8).toNat < (v &&& 0x0F#8).toNat)
  let n := r - (if h then 1 else 0)
  packF (r.getLsbD 7) (r == 0) (n.getLsbD 1) h (n.getLsbD 3) (bc != 0) true (flagC f)

/-- The flags of one port iteration: B after the decrement, the byte moved, the other addend of k
(45_block.md rules R362, R363). -/
def ioxFlags (b v w : Byte) : Byte :=
  let k : BitVec 9 := v.setWidth 9 + w.setWidth 9
  packF (b.getLsbD 7) (b == 0) (b.getLsbD 5) (k.getLsbD 8) (b.getLsbD 3)
    (parity ((k.setWidth 8 &&& 0x07#8) ^^^ b)) (v.getLsbD 7) (k.getLsbD 8)

end Sys2Proof.Machine
end

