-- ==== Sys2Proof/Machine/Ops.lean ====
section
/-! DEFINITION. The named operations over memory, the bus, the program counter, the stack and the
refresh counter (00_scope.md rule R9, 20_memory.md), the entry into a handler with the acceptance of
interrupts (60_exceptions.md rules R506 to R511), and the return from one. -/

namespace Sys2Proof.Machine

/-! ### Memory -/

/-- The byte held at address `a`. -/
def Memory.read : Memory → Nat → Byte
  | [], _ => Memory.unlisted
  | (k, v) :: rest, a => if k = a then v else Memory.read rest a

/-- Memory with byte `v` at address `a`, in canonical form. -/
def Memory.write : Memory → Nat → Byte → Memory
  | [], a, v => if v = Memory.unlisted then [] else [(a, v)]
  | (k, w) :: rest, a, v =>
    if a < k then
      if v = Memory.unlisted then (k, w) :: rest else (a, v) :: (k, w) :: rest
    else if a = k then
      if v = Memory.unlisted then rest else (a, v) :: rest
    else (k, w) :: Memory.write rest a v

/-- Memory with the bytes `bs` from address `a` up, modulo 65,536. -/
def Memory.writeBytes (m : Memory) (a : Word) : List Byte → Memory
  | [] => m
  | b :: bs => Memory.writeBytes (Memory.write m a.toNat b) (a + 1) bs

/-- Every listed address is at least `lo`, rising and below 65,536, and no listed byte is what an
unlisted address reads as. -/
def Memory.wfFrom : Nat → Memory → Bool
  | _, [] => true
  | lo, (k, v) :: rest =>
    decide (lo ≤ k) && decide (k < 65536) && decide (v ≠ Memory.unlisted) && Memory.wfFrom (k + 1) rest

/-- Memory is in its one canonical form. -/
def Memory.wf (m : Memory) : Bool := Memory.wfFrom 0 m

/-! ### The clock and the event history -/

/-- `ticks` grows by `n` T-states (70_reset_and_hazards.md rules R608, R609). -/
def State.tick (s : State) (n : Nat) : State := { s with ticks := s.ticks + n }

/-- One more event in the history (20_memory.md rule R86). -/
def State.record (s : State) (e : Event) : State := { s with history := e :: s.history }

/-! ### The bus -/

/-- The byte one `readByte(a)` call answers now (20_memory.md rule R72). -/
def State.busByte (s : State) (a : Word) : Byte :=
  match s.params.busModel with
  | .ram => Memory.read s.mem a.toNat
  | .oracle => Config.busRead s.history a

/-- `MemRead(a, 1)` (00_scope.md rule R9). -/
def State.readMem (s : State) (a : Word) : Byte × State :=
  (s.busByte a, s.record (.read a (s.busByte a)))

/-- `MemWrite(a, 1, v)` (00_scope.md rule R9). -/
def State.writeMem (s : State) (a : Word) (v : Byte) : State :=
  { s with mem := Memory.write s.mem a.toNat v, history := .write a v :: s.history }

/-- `MemRead16(a)`: the low byte, then the high byte (20_memory.md rule R73). -/
def State.readMem16 (s : State) (a : Word) : Word × State :=
  let lo := s.readMem a
  let hi := lo.2.readMem (a + 1)
  (pair hi.1 lo.1, hi.2)

/-- `MemWrite16(a, v)`: the low byte, then the high byte (20_memory.md rule R73). -/
def State.writeMem16 (s : State) (a v : Word) : State :=
  (s.writeMem a (loByte v)).writeMem (a + 1) (hiByte v)

/-- `IORead(p)`: a draw of `IO_READ`, recorded (20_memory.md rules R71, R72). -/
def State.ioRead (s : State) (p : Word) : Byte × State :=
  (Config.ioRead s.history p, s.record (.input p (Config.ioRead s.history p)))

/-- `IOWrite(p, v)`: a recorded event without effect on the core (20_memory.md rule R72). -/
def State.ioWrite (s : State) (p : Word) (v : Byte) : State := s.record (.output p v)

/-! ### Fetching -/

/-- `FetchOpcode()`: an M1 fetch (00_scope.md rule R9, 10_state.md rule R37). -/
def State.fetchOpcode (s : State) : Byte × State :=
  (s.busByte s.pc,
    { s with pc := s.pc + 1, r := refreshStep s.r, history := .fetch s.pc (s.busByte s.pc) true :: s.history })

/-- `FetchByte()`: an operand fetch (00_scope.md rule R9). -/
def State.fetchByte (s : State) : Byte × State :=
  (s.busByte s.pc,
    { s with pc := s.pc + 1, history := .fetch s.pc (s.busByte s.pc) false :: s.history })

/-- `n` operand fetches in address order (20_memory.md rule R84). -/
def State.fetchOperands : Nat → State → List Byte × State
  | 0, s => ([], s)
  | n + 1, s =>
    let b := s.fetchByte
    let rest := State.fetchOperands n b.2
    (b.1 :: rest.1, rest.2)

/-! ### The stack -/

/-- `Push16(v)`: the high byte at SP-1, then the low byte at SP-2 (20_memory.md rule R75). -/
def State.push16 (s : State) (v : Word) : State :=
  let s1 := { s with sp := s.sp - 1 }
  let s2 := s1.writeMem s1.sp (hiByte v)
  let s3 := { s2 with sp := s2.sp - 1 }
  s3.writeMem s3.sp (loByte v)

/-- `Pop16()`: the low byte at SP, then the high byte at SP+1 (20_memory.md rule R75). -/
def State.pop16 (s : State) : Word × State :=
  let lo := s.readMem s.sp
  let s1 := { lo.2 with sp := lo.2.sp + 1 }
  let hi := s1.readMem s1.sp
  (pair hi.1 lo.1, { hi.2 with sp := hi.2.sp + 1 })

/-! ### Program counter -/

/-- A taken transfer: PC and WZ take the target (47_control_flow.md). -/
def State.jumpTo (s : State) (target : Word) : State := { s with pc := target, wz := target }

/-! ### Entering a handler and returning from it -/

/-- The entry into a handler at `target`: PC is pushed, and PC and WZ take the target
(60_exceptions.md rules R506, R509; 47_control_flow.md rule R413). -/
def State.enterHandler (s : State) (target : Word) : State := (s.push16 s.pc).jumpTo target

/-- `AcceptCommon()`: release from HALT, one refresh step, end of the EI shadow (60_exceptions.md rule R511). -/
def State.acceptCommon (s : State) : State :=
  { s with
    halted := false
    pc := if s.halted then s.pc + 1 else s.pc
    r := refreshStep s.r
    eiPending := false }

/-- `AcceptNMI()` (60_exceptions.md rule R506): 11 T-states. -/
def State.acceptNmi (s : State) : State :=
  (State.enterHandler
    { (State.acceptCommon { s with nmiPending := false }) with iff1 := false } 0x0066).tick 11

/-- The part every maskable acceptance shares: `AcceptCommon`, both flip-flops cleared, `IntAck`
recorded (60_exceptions.md rule R507). -/
def State.acknowledgeInt (s : State) (v : Byte) : State :=
  ({ s.acceptCommon with iff1 := false, iff2 := false } : State).record (.intAck v)

/-- The mode 1 entry (60_exceptions.md rule R509): 13 T-states. -/
def State.enterIm1 (s : State) : State := (s.enterHandler 0x0038).tick 13

/-- The mode 2 entry: PC is pushed, then the vector is read at `I : v` (60_exceptions.md rule R510):
19 T-states. -/
def State.enterIm2 (s : State) (v : Byte) : State :=
  let s1 := s.push16 s.pc
  let target := s1.readMem16 (pair s1.i v)
  (target.2.jumpTo target.1).tick 19

/-- PC and WZ take the popped address (47_control_flow.md rule R409). -/
def State.returnToCaller (s : State) : State :=
  let target := s.pop16
  target.2.jumpTo target.1

/-- The return from a handler: PC is popped and IFF1 takes IFF2 (47_control_flow.md rules R411, R412). -/
def State.returnFromHandler (s : State) : State :=
  { s.returnToCaller with iff1 := s.returnToCaller.iff2 }

/-! ### Host moves between steps -/

/-- The host requests an NMI (60_exceptions.md rule R503). -/
def State.requestNmi (s : State) : State := { s with nmiPending := true }

/-- The host presents the INT line and data byte for the next step (60_exceptions.md rule R504). -/
def State.presentInt (s : State) (line : Bool) (data : Byte) : State :=
  { s with intLine := line, intData := data }

/-- `Reset()` (70_reset_and_hazards.md rule R600) with the `RESET_FILL` draws `fill`. Memory, the
history, the presented inputs and the parameters are not touched. -/
def State.applyReset (fill : ResetFill) (s : State) : State :=
  { s with
    main := fill.main, shadow := fill.shadow
    ix := fill.ix, iy := fill.iy, sp := fill.sp, wz := fill.wz
    pc := 0x0000, i := 0x00, r := 0x00, im := .im0
    iff1 := false, iff2 := false, eiPending := false, nmiPending := false
    halted := false, indexMode := .hl, ticks := 0 }

/-! ### Outputs -/

/-- The HALT indicator (60_exceptions.md rule R519). -/
def State.haltIndicator (s : State) : Bool := s.halted

/-- The refresh address `I : R` (20_memory.md rule R89, 60_exceptions.md rule R520). -/
def State.refreshAddress (s : State) : Word := pair s.i s.r

end Sys2Proof.Machine
end

