-- ==== Sys2Proof/Machine/Operands.lean ====
section
/-! DEFINITION. Every operand form: 8-bit registers and index halves (30_encoding.md rules R102, R121),
16-bit registers (rule R103), the (HL) and (m+d) operands with their address resolved once (rule R120),
and the 8-bit source operands (rule R126). -/

namespace Sys2Proof.Machine

/-! ### 8-bit registers -/

/-- The named 8-bit register. -/
def State.get8 (s : State) (k : Reg8) : Byte :=
  match k with
  | .b => s.main.b
  | .c => s.main.c
  | .d => s.main.d
  | .e => s.main.e
  | .h => s.main.h
  | .l => s.main.l
  | .a => s.main.a

/-- The state with the named 8-bit register set. -/
def State.set8 (s : State) (k : Reg8) (v : Byte) : State :=
  match k with
  | .b => { s with main := { s.main with b := v } }
  | .c => { s with main := { s.main with c := v } }
  | .d => { s with main := { s.main with d := v } }
  | .e => { s with main := { s.main with e := v } }
  | .h => { s with main := { s.main with h := v } }
  | .l => { s with main := { s.main with l := v } }
  | .a => { s with main := { s.main with a := v } }

/-- F takes the byte `v`. -/
def State.setF (s : State) (v : Byte) : State := { s with main := { s.main with f := v } }

/-- A and F take a result and its flag byte. -/
def State.setAF (s : State) (r : Byte × Byte) : State := { s with main := { s.main with a := r.1, f := r.2 } }

/-- WZ takes `v`. -/
def State.setWz (s : State) (v : Word) : State := { s with wz := v }

/-! ### Index registers and their halves (10_state.md rule R33) -/

/-- IX or IY. -/
def State.getIdx (s : State) (m : IdxReg) : Word :=
  match m with
  | .ix => s.ix
  | .iy => s.iy

/-- The state with IX or IY set. -/
def State.setIdx (s : State) (m : IdxReg) (v : Word) : State :=
  match m with
  | .ix => { s with ix := v }
  | .iy => { s with iy := v }

/-- An 8-bit register or an index half. -/
def State.getLoc (s : State) (k : Loc8) : Byte :=
  match k with
  | .reg r => s.get8 r
  | .half m .hi => hiByte (s.getIdx m)
  | .half m .lo => loByte (s.getIdx m)

/-- The state with an 8-bit register or an index half set; the other half is kept. -/
def State.setLoc (s : State) (k : Loc8) (v : Byte) : State :=
  match k with
  | .reg r => s.set8 r v
  | .half m .hi => s.setIdx m (pair v (loByte (s.getIdx m)))
  | .half m .lo => s.setIdx m (pair (hiByte (s.getIdx m)) v)

/-- Table `r` under an index mode: the operand a register name of the plain row stands for
(30_encoding.md rule R102). -/
def rowLoc (m : IndexMode) (k : Reg8) : Loc8 :=
  match m, k with
  | .ix, .h => .half .ix .hi
  | .ix, .l => .half .ix .lo
  | .iy, .h => .half .iy .hi
  | .iy, .l => .half .iy .lo
  | _, k => .reg k

/-! ### 16-bit registers (10_state.md rule R31, 30_encoding.md rule R103) -/

def State.bc (s : State) : Word := pair s.main.b s.main.c
def State.de (s : State) : Word := pair s.main.d s.main.e
def State.hl (s : State) : Word := pair s.main.h s.main.l
def State.af (s : State) : Word := pair s.main.a s.main.f

/-- The named 16-bit register or pair. -/
def State.get16 (s : State) (k : Reg16) : Word :=
  match k with
  | .bc => s.bc
  | .de => s.de
  | .hl => s.hl
  | .af => s.af
  | .sp => s.sp
  | .ix => s.ix
  | .iy => s.iy

/-- The state with the named 16-bit register or pair set. -/
def State.set16 (s : State) (k : Reg16) (v : Word) : State :=
  match k with
  | .bc => { s with main := { s.main with b := hiByte v, c := loByte v } }
  | .de => { s with main := { s.main with d := hiByte v, e := loByte v } }
  | .hl => { s with main := { s.main with h := hiByte v, l := loByte v } }
  | .af => { s with main := { s.main with a := hiByte v, f := loByte v } }
  | .sp => { s with sp := v }
  | .ix => { s with ix := v }
  | .iy => { s with iy := v }

/-- The register "HL" names under an index mode (30_encoding.md rule R117 item 3). -/
def modeReg (m : IndexMode) : Reg16 :=
  match m with
  | .hl => .hl
  | .ix => .ix
  | .iy => .iy

/-- Table `rp` under an index mode (30_encoding.md rule R103). -/
def rpReg (m : IndexMode) (p : Rp) : Reg16 :=
  match p with
  | .bc => .bc
  | .de => .de
  | .hl => modeReg m
  | .sp => .sp

/-- Table `rp2` under an index mode (30_encoding.md rule R103). -/
def rp2Reg (m : IndexMode) (p : Rp2) : Reg16 :=
  match p with
  | .bc => .bc
  | .de => .de
  | .hl => modeReg m
  | .af => .af

/-! ### Memory operands and sources -/

/-- `EA(m)`: the effective address, with the WZ write of the (m+d) forms (30_encoding.md rule R120). -/
def State.resolve (s : State) (o : MemOp) : Word × State :=
  match o with
  | .atHL => (s.hl, s)
  | .atIdx m d => (displaced (s.getIdx m) d, s.setWz (displaced (s.getIdx m) d))

/-- The byte of a memory operand: address resolved once, one read. -/
def State.readOperand (s : State) (o : MemOp) : Byte × State :=
  let ea := s.resolve o
  ea.2.readMem ea.1

/-- A store to a memory operand: address resolved once, one write. -/
def State.writeOperand (s : State) (o : MemOp) (v : Byte) : State :=
  let ea := s.resolve o
  ea.2.writeMem ea.1 v

/-- A read-modify-write of a memory operand, with the byte written: the address resolved once, one read,
F set, one write to the same address (20_memory.md rule R78). `g` answers the new byte and the new F. -/
def State.updateOperand (s : State) (o : MemOp) (g : Byte → Byte → Byte × Byte) : Byte × State :=
  let ea := s.resolve o
  let v := ea.2.readMem ea.1
  let r := g v.1 v.2.main.f
  (r.1, (v.2.setF r.2).writeMem ea.1 r.1)

/-- A read-modify-write of a memory operand (20_memory.md rule R78). -/
def State.modifyOperand (s : State) (o : MemOp) (g : Byte → Byte → Byte × Byte) : State :=
  (s.updateOperand o g).2

/-- The 8-bit source operand `s` (30_encoding.md rule R126). -/
def State.readSrc (s : State) (o : Src8) : Byte × State :=
  match o with
  | .loc k => (s.getLoc k, s)
  | .mem mo => s.readOperand mo
  | .imm n => (n, s)

/-- T-states of an 8-bit load into a register or an ALU operation with this source, less the 4 of a
prefix step (70_reset_and_hazards.md rules R608, R609). -/
def srcCycles (o : Src8) : Nat :=
  match o with
  | .loc _ => 4
  | .mem .atHL => 7
  | .mem (.atIdx _ _) => 15
  | .imm _ => 7

/-- T-states of a memory form: `plain` for (HL), `indexed` for (m+d) less the 4 of its prefix step. -/
def memCycles (o : MemOp) (plain indexed : Nat) : Nat :=
  match o with
  | .atHL => plain
  | .atIdx _ _ => indexed

end Sys2Proof.Machine
end

