-- ==== Sys2Proof/Machine/Alu16.lean ====
section
/-! DEFINITION. 16-bit arithmetic (43_alu16.md rules R303 to R310). -/

namespace Sys2Proof.Machine

/-- Register `k` and F take a 16-bit result, WZ takes the old `k` plus 1, in `t` T-states
(43_alu16.md rules R303 to R306). -/
def State.set16Flags (s : State) (k : Reg16) (r : Word × Byte) (t : Nat) : State :=
  (((s.set16 k r.1).setF r.2).setWz (s.get16 k + 1)).tick t

/-- ADD HL,rp, ADD IX,rp, ADD IY,rp (43_alu16.md rules R303, R304). -/
def State.addTo16 (s : State) (k p : Reg16) : State :=
  s.set16Flags k (add16 (s.get16 k) (s.get16 p) s.main.f) 11

/-- ADC HL,rp (43_alu16.md rule R305). -/
def State.adcHL (s : State) (p : Reg16) : State :=
  s.set16Flags .hl (adc16 s.hl (s.get16 p) (flagC s.main.f)) 15

/-- SBC HL,rp (43_alu16.md rule R306). -/
def State.sbcHL (s : State) (p : Reg16) : State :=
  s.set16Flags .hl (sbc16 s.hl (s.get16 p) (flagC s.main.f)) 15

/-- INC of a 16-bit register (43_alu16.md rules R307, R309). -/
def State.inc16 (s : State) (k : Reg16) : State := (s.set16 k (s.get16 k + 1)).tick 6

/-- DEC of a 16-bit register (43_alu16.md rules R308, R310). -/
def State.dec16 (s : State) (k : Reg16) : State := (s.set16 k (s.get16 k - 1)).tick 6

/-! ### One meaning per instruction -/

/-- INC BC (43_alu16.md rule R307). -/
def exec_inc_BC (s : State) : Outcome := .next (s.inc16 .bc)

/-- ADD HL,BC (43_alu16.md rule R303). -/
def exec_add_HL_BC (s : State) : Outcome := .next (s.addTo16 .hl .bc)

/-- DEC BC (43_alu16.md rule R308). -/
def exec_dec_BC (s : State) : Outcome := .next (s.dec16 .bc)

/-- INC DE (43_alu16.md rule R307). -/
def exec_inc_DE (s : State) : Outcome := .next (s.inc16 .de)

/-- ADD HL,DE (43_alu16.md rule R303). -/
def exec_add_HL_DE (s : State) : Outcome := .next (s.addTo16 .hl .de)

/-- DEC DE (43_alu16.md rule R308). -/
def exec_dec_DE (s : State) : Outcome := .next (s.dec16 .de)

/-- INC HL (43_alu16.md rule R307). -/
def exec_inc_HL (s : State) : Outcome := .next (s.inc16 .hl)

/-- ADD HL,HL (43_alu16.md rule R303). -/
def exec_add_HL_HL (s : State) : Outcome := .next (s.addTo16 .hl .hl)

/-- DEC HL (43_alu16.md rule R308). -/
def exec_dec_HL (s : State) : Outcome := .next (s.dec16 .hl)

/-- INC SP (43_alu16.md rule R307). -/
def exec_inc_SP (s : State) : Outcome := .next (s.inc16 .sp)

/-- ADD HL,SP (43_alu16.md rule R303). -/
def exec_add_HL_SP (s : State) : Outcome := .next (s.addTo16 .hl .sp)

/-- DEC SP (43_alu16.md rule R308). -/
def exec_dec_SP (s : State) : Outcome := .next (s.dec16 .sp)

/-- SBC HL,BC (43_alu16.md rule R306). -/
def exec_sbc_HL_BC (s : State) : Outcome := .next (s.sbcHL .bc)

/-- ADC HL,BC (43_alu16.md rule R305). -/
def exec_adc_HL_BC (s : State) : Outcome := .next (s.adcHL .bc)

/-- SBC HL,DE (43_alu16.md rule R306). -/
def exec_sbc_HL_DE (s : State) : Outcome := .next (s.sbcHL .de)

/-- ADC HL,DE (43_alu16.md rule R305). -/
def exec_adc_HL_DE (s : State) : Outcome := .next (s.adcHL .de)

/-- SBC HL,HL (43_alu16.md rule R306). -/
def exec_sbc_HL_HL (s : State) : Outcome := .next (s.sbcHL .hl)

/-- ADC HL,HL (43_alu16.md rule R305). -/
def exec_adc_HL_HL (s : State) : Outcome := .next (s.adcHL .hl)

/-- SBC HL,SP (43_alu16.md rule R306). -/
def exec_sbc_HL_SP (s : State) : Outcome := .next (s.sbcHL .sp)

/-- ADC HL,SP (43_alu16.md rule R305). -/
def exec_adc_HL_SP (s : State) : Outcome := .next (s.adcHL .sp)

/-- ADD IX,BC (43_alu16.md rule R304). -/
def exec_add_IX_BC (s : State) : Outcome := .next (s.addTo16 .ix .bc)

/-- ADD IX,DE (43_alu16.md rule R304). -/
def exec_add_IX_DE (s : State) : Outcome := .next (s.addTo16 .ix .de)

/-- INC IX (43_alu16.md rule R309). -/
def exec_inc_IX (s : State) : Outcome := .next (s.inc16 .ix)

/-- ADD IX,IX (43_alu16.md rule R304). -/
def exec_add_IX_IX (s : State) : Outcome := .next (s.addTo16 .ix .ix)

/-- DEC IX (43_alu16.md rule R310). -/
def exec_dec_IX (s : State) : Outcome := .next (s.dec16 .ix)

/-- ADD IX,SP (43_alu16.md rule R304). -/
def exec_add_IX_SP (s : State) : Outcome := .next (s.addTo16 .ix .sp)

/-- ADD IY,BC (43_alu16.md rule R304). -/
def exec_add_IY_BC (s : State) : Outcome := .next (s.addTo16 .iy .bc)

/-- ADD IY,DE (43_alu16.md rule R304). -/
def exec_add_IY_DE (s : State) : Outcome := .next (s.addTo16 .iy .de)

/-- INC IY (43_alu16.md rule R309). -/
def exec_inc_IY (s : State) : Outcome := .next (s.inc16 .iy)

/-- ADD IY,IY (43_alu16.md rule R304). -/
def exec_add_IY_IY (s : State) : Outcome := .next (s.addTo16 .iy .iy)

/-- DEC IY (43_alu16.md rule R310). -/
def exec_dec_IY (s : State) : Outcome := .next (s.dec16 .iy)

/-- ADD IY,SP (43_alu16.md rule R304). -/
def exec_add_IY_SP (s : State) : Outcome := .next (s.addTo16 .iy .sp)

end Sys2Proof.Machine
end

