-- ==== Sys2Proof/Machine/Alu8.lean ====
section
/-! DEFINITION. 8-bit arithmetic and logic (42_alu8.md rules R266 to R282). -/

namespace Sys2Proof.Machine

/-- The new A and F of the operation on A = `a` and source byte `v` (42_alu8.md rules R266 to R273). -/
def aluResult (op : AluOp) (cpXy : CpXySource) (a v f : Byte) : Byte × Byte :=
  match op with
  | .add => add8 a v false
  | .adc => add8 a v (flagC f)
  | .sub => sub8 a v false
  | .sbc => sub8 a v (flagC f)
  | .and => (a &&& v, andFlags (a &&& v))
  | .xor => (a ^^^ v, orFlags (a ^^^ v))
  | .or => (a ||| v, orFlags (a ||| v))
  | .cp => (a, cpFlags cpXy a v)

/-- One of the eight ALU operations on A and a source operand (30_encoding.md rule R126). -/
def State.alu (s : State) (op : AluOp) (o : Src8) : State :=
  let v := s.readSrc o
  (v.2.setAF (aluResult op s.params.cpXy s.main.a v.1 s.main.f)).tick (srcCycles o)

/-- A register or index half and F take the result of `g` on the register and F (42_alu8.md rules R274, R276). -/
def State.modifyLoc (s : State) (k : Loc8) (g : Byte → Byte → Byte × Byte) : State :=
  let r := g (s.getLoc k) s.main.f
  (s.setLoc k r.1).setF r.2

/-- INC of a register or index half (42_alu8.md rule R274). -/
def State.incLoc (s : State) (k : Loc8) : State := (s.modifyLoc k inc8).tick 4

/-- DEC of a register or index half (42_alu8.md rule R276). -/
def State.decLoc (s : State) (k : Loc8) : State := (s.modifyLoc k dec8).tick 4

/-- INC of a memory operand (42_alu8.md rule R275). -/
def State.incMem (s : State) (o : MemOp) : State := (s.modifyOperand o inc8).tick (memCycles o 11 19)

/-- DEC of a memory operand (42_alu8.md rule R277). -/
def State.decMem (s : State) (o : MemOp) : State := (s.modifyOperand o dec8).tick (memCycles o 11 19)

/-- DAA (42_alu8.md rule R278). -/
def State.daa (s : State) : State := (s.setAF (daa8 s.main.a s.main.f)).tick 4

/-- CPL (42_alu8.md rule R279). -/
def State.cpl (s : State) : State :=
  (s.setAF (s.main.a ^^^ 0xFF#8, cplFlags (s.main.a ^^^ 0xFF#8) s.main.f)).tick 4

/-- NEG (42_alu8.md rule R280). -/
def State.neg (s : State) : State := (s.setAF (sub8 0x00 s.main.a false)).tick 8

/-- SCF (42_alu8.md rule R281). -/
def State.scf (s : State) : State := (s.setF (accFlags s.main.a s.main.f false true)).tick 4

/-- CCF (42_alu8.md rule R282). -/
def State.ccf (s : State) : State :=
  (s.setF (accFlags s.main.a s.main.f (flagC s.main.f) (!flagC s.main.f))).tick 4

/-! ### One meaning per instruction -/

/-- INC B (42_alu8.md rule R274). -/
def exec_inc_B (s : State) : Outcome := .next (s.incLoc (.reg .b))

/-- DEC B (42_alu8.md rule R276). -/
def exec_dec_B (s : State) : Outcome := .next (s.decLoc (.reg .b))

/-- INC C (42_alu8.md rule R274). -/
def exec_inc_C (s : State) : Outcome := .next (s.incLoc (.reg .c))

/-- DEC C (42_alu8.md rule R276). -/
def exec_dec_C (s : State) : Outcome := .next (s.decLoc (.reg .c))

/-- INC D (42_alu8.md rule R274). -/
def exec_inc_D (s : State) : Outcome := .next (s.incLoc (.reg .d))

/-- DEC D (42_alu8.md rule R276). -/
def exec_dec_D (s : State) : Outcome := .next (s.decLoc (.reg .d))

/-- INC E (42_alu8.md rule R274). -/
def exec_inc_E (s : State) : Outcome := .next (s.incLoc (.reg .e))

/-- DEC E (42_alu8.md rule R276). -/
def exec_dec_E (s : State) : Outcome := .next (s.decLoc (.reg .e))

/-- INC H (42_alu8.md rule R274). -/
def exec_inc_H (s : State) : Outcome := .next (s.incLoc (.reg .h))

/-- DEC H (42_alu8.md rule R276). -/
def exec_dec_H (s : State) : Outcome := .next (s.decLoc (.reg .h))

/-- DAA (42_alu8.md rule R278). -/
def exec_daa (s : State) : Outcome := .next (s.daa)

/-- INC L (42_alu8.md rule R274). -/
def exec_inc_L (s : State) : Outcome := .next (s.incLoc (.reg .l))

/-- DEC L (42_alu8.md rule R276). -/
def exec_dec_L (s : State) : Outcome := .next (s.decLoc (.reg .l))

/-- CPL (42_alu8.md rule R279). -/
def exec_cpl (s : State) : Outcome := .next (s.cpl)

/-- INC (HL) (42_alu8.md rule R275). -/
def exec_inc_atHL (s : State) : Outcome := .next (s.incMem .atHL)

/-- DEC (HL) (42_alu8.md rule R277). -/
def exec_dec_atHL (s : State) : Outcome := .next (s.decMem .atHL)

/-- SCF (42_alu8.md rule R281). -/
def exec_scf (s : State) : Outcome := .next (s.scf)

/-- INC A (42_alu8.md rule R274). -/
def exec_inc_A (s : State) : Outcome := .next (s.incLoc (.reg .a))

/-- DEC A (42_alu8.md rule R276). -/
def exec_dec_A (s : State) : Outcome := .next (s.decLoc (.reg .a))

/-- CCF (42_alu8.md rule R282). -/
def exec_ccf (s : State) : Outcome := .next (s.ccf)

/-- ADD A,B (42_alu8.md rule R266). -/
def exec_add_A_B (s : State) : Outcome := .next (s.alu .add (.loc (.reg .b)))

/-- ADD A,C (42_alu8.md rule R266). -/
def exec_add_A_C (s : State) : Outcome := .next (s.alu .add (.loc (.reg .c)))

/-- ADD A,D (42_alu8.md rule R266). -/
def exec_add_A_D (s : State) : Outcome := .next (s.alu .add (.loc (.reg .d)))

/-- ADD A,E (42_alu8.md rule R266). -/
def exec_add_A_E (s : State) : Outcome := .next (s.alu .add (.loc (.reg .e)))

/-- ADD A,H (42_alu8.md rule R266). -/
def exec_add_A_H (s : State) : Outcome := .next (s.alu .add (.loc (.reg .h)))

/-- ADD A,L (42_alu8.md rule R266). -/
def exec_add_A_L (s : State) : Outcome := .next (s.alu .add (.loc (.reg .l)))

/-- ADD A,(HL) (42_alu8.md rule R266). -/
def exec_add_A_atHL (s : State) : Outcome := .next (s.alu .add (.mem .atHL))

/-- ADD A,A (42_alu8.md rule R266). -/
def exec_add_A_A (s : State) : Outcome := .next (s.alu .add (.loc (.reg .a)))

/-- ADC A,B (42_alu8.md rule R267). -/
def exec_adc_A_B (s : State) : Outcome := .next (s.alu .adc (.loc (.reg .b)))

/-- ADC A,C (42_alu8.md rule R267). -/
def exec_adc_A_C (s : State) : Outcome := .next (s.alu .adc (.loc (.reg .c)))

/-- ADC A,D (42_alu8.md rule R267). -/
def exec_adc_A_D (s : State) : Outcome := .next (s.alu .adc (.loc (.reg .d)))

/-- ADC A,E (42_alu8.md rule R267). -/
def exec_adc_A_E (s : State) : Outcome := .next (s.alu .adc (.loc (.reg .e)))

/-- ADC A,H (42_alu8.md rule R267). -/
def exec_adc_A_H (s : State) : Outcome := .next (s.alu .adc (.loc (.reg .h)))

/-- ADC A,L (42_alu8.md rule R267). -/
def exec_adc_A_L (s : State) : Outcome := .next (s.alu .adc (.loc (.reg .l)))

/-- ADC A,(HL) (42_alu8.md rule R267). -/
def exec_adc_A_atHL (s : State) : Outcome := .next (s.alu .adc (.mem .atHL))

/-- ADC A,A (42_alu8.md rule R267). -/
def exec_adc_A_A (s : State) : Outcome := .next (s.alu .adc (.loc (.reg .a)))

/-- SUB B (42_alu8.md rule R268). -/
def exec_sub_B (s : State) : Outcome := .next (s.alu .sub (.loc (.reg .b)))

/-- SUB C (42_alu8.md rule R268). -/
def exec_sub_C (s : State) : Outcome := .next (s.alu .sub (.loc (.reg .c)))

/-- SUB D (42_alu8.md rule R268). -/
def exec_sub_D (s : State) : Outcome := .next (s.alu .sub (.loc (.reg .d)))

/-- SUB E (42_alu8.md rule R268). -/
def exec_sub_E (s : State) : Outcome := .next (s.alu .sub (.loc (.reg .e)))

/-- SUB H (42_alu8.md rule R268). -/
def exec_sub_H (s : State) : Outcome := .next (s.alu .sub (.loc (.reg .h)))

/-- SUB L (42_alu8.md rule R268). -/
def exec_sub_L (s : State) : Outcome := .next (s.alu .sub (.loc (.reg .l)))

/-- SUB (HL) (42_alu8.md rule R268). -/
def exec_sub_atHL (s : State) : Outcome := .next (s.alu .sub (.mem .atHL))

/-- SUB A (42_alu8.md rule R268). -/
def exec_sub_A (s : State) : Outcome := .next (s.alu .sub (.loc (.reg .a)))

/-- SBC A,B (42_alu8.md rule R269). -/
def exec_sbc_A_B (s : State) : Outcome := .next (s.alu .sbc (.loc (.reg .b)))

/-- SBC A,C (42_alu8.md rule R269). -/
def exec_sbc_A_C (s : State) : Outcome := .next (s.alu .sbc (.loc (.reg .c)))

/-- SBC A,D (42_alu8.md rule R269). -/
def exec_sbc_A_D (s : State) : Outcome := .next (s.alu .sbc (.loc (.reg .d)))

/-- SBC A,E (42_alu8.md rule R269). -/
def exec_sbc_A_E (s : State) : Outcome := .next (s.alu .sbc (.loc (.reg .e)))

/-- SBC A,H (42_alu8.md rule R269). -/
def exec_sbc_A_H (s : State) : Outcome := .next (s.alu .sbc (.loc (.reg .h)))

/-- SBC A,L (42_alu8.md rule R269). -/
def exec_sbc_A_L (s : State) : Outcome := .next (s.alu .sbc (.loc (.reg .l)))

/-- SBC A,(HL) (42_alu8.md rule R269). -/
def exec_sbc_A_atHL (s : State) : Outcome := .next (s.alu .sbc (.mem .atHL))

/-- SBC A,A (42_alu8.md rule R269). -/
def exec_sbc_A_A (s : State) : Outcome := .next (s.alu .sbc (.loc (.reg .a)))

/-- AND B (42_alu8.md rule R270). -/
def exec_and_B (s : State) : Outcome := .next (s.alu .and (.loc (.reg .b)))

/-- AND C (42_alu8.md rule R270). -/
def exec_and_C (s : State) : Outcome := .next (s.alu .and (.loc (.reg .c)))

/-- AND D (42_alu8.md rule R270). -/
def exec_and_D (s : State) : Outcome := .next (s.alu .and (.loc (.reg .d)))

/-- AND E (42_alu8.md rule R270). -/
def exec_and_E (s : State) : Outcome := .next (s.alu .and (.loc (.reg .e)))

/-- AND H (42_alu8.md rule R270). -/
def exec_and_H (s : State) : Outcome := .next (s.alu .and (.loc (.reg .h)))

/-- AND L (42_alu8.md rule R270). -/
def exec_and_L (s : State) : Outcome := .next (s.alu .and (.loc (.reg .l)))

/-- AND (HL) (42_alu8.md rule R270). -/
def exec_and_atHL (s : State) : Outcome := .next (s.alu .and (.mem .atHL))

/-- AND A (42_alu8.md rule R270). -/
def exec_and_A (s : State) : Outcome := .next (s.alu .and (.loc (.reg .a)))

/-- XOR B (42_alu8.md rule R271). -/
def exec_xor_B (s : State) : Outcome := .next (s.alu .xor (.loc (.reg .b)))

/-- XOR C (42_alu8.md rule R271). -/
def exec_xor_C (s : State) : Outcome := .next (s.alu .xor (.loc (.reg .c)))

/-- XOR D (42_alu8.md rule R271). -/
def exec_xor_D (s : State) : Outcome := .next (s.alu .xor (.loc (.reg .d)))

/-- XOR E (42_alu8.md rule R271). -/
def exec_xor_E (s : State) : Outcome := .next (s.alu .xor (.loc (.reg .e)))

/-- XOR H (42_alu8.md rule R271). -/
def exec_xor_H (s : State) : Outcome := .next (s.alu .xor (.loc (.reg .h)))

/-- XOR L (42_alu8.md rule R271). -/
def exec_xor_L (s : State) : Outcome := .next (s.alu .xor (.loc (.reg .l)))

/-- XOR (HL) (42_alu8.md rule R271). -/
def exec_xor_atHL (s : State) : Outcome := .next (s.alu .xor (.mem .atHL))

/-- XOR A (42_alu8.md rule R271). -/
def exec_xor_A (s : State) : Outcome := .next (s.alu .xor (.loc (.reg .a)))

/-- OR B (42_alu8.md rule R272). -/
def exec_or_B (s : State) : Outcome := .next (s.alu .or (.loc (.reg .b)))

/-- OR C (42_alu8.md rule R272). -/
def exec_or_C (s : State) : Outcome := .next (s.alu .or (.loc (.reg .c)))

/-- OR D (42_alu8.md rule R272). -/
def exec_or_D (s : State) : Outcome := .next (s.alu .or (.loc (.reg .d)))

/-- OR E (42_alu8.md rule R272). -/
def exec_or_E (s : State) : Outcome := .next (s.alu .or (.loc (.reg .e)))

/-- OR H (42_alu8.md rule R272). -/
def exec_or_H (s : State) : Outcome := .next (s.alu .or (.loc (.reg .h)))

/-- OR L (42_alu8.md rule R272). -/
def exec_or_L (s : State) : Outcome := .next (s.alu .or (.loc (.reg .l)))

/-- OR (HL) (42_alu8.md rule R272). -/
def exec_or_atHL (s : State) : Outcome := .next (s.alu .or (.mem .atHL))

/-- OR A (42_alu8.md rule R272). -/
def exec_or_A (s : State) : Outcome := .next (s.alu .or (.loc (.reg .a)))

/-- CP B (42_alu8.md rule R273). -/
def exec_cp_B (s : State) : Outcome := .next (s.alu .cp (.loc (.reg .b)))

/-- CP C (42_alu8.md rule R273). -/
def exec_cp_C (s : State) : Outcome := .next (s.alu .cp (.loc (.reg .c)))

/-- CP D (42_alu8.md rule R273). -/
def exec_cp_D (s : State) : Outcome := .next (s.alu .cp (.loc (.reg .d)))

/-- CP E (42_alu8.md rule R273). -/
def exec_cp_E (s : State) : Outcome := .next (s.alu .cp (.loc (.reg .e)))

/-- CP H (42_alu8.md rule R273). -/
def exec_cp_H (s : State) : Outcome := .next (s.alu .cp (.loc (.reg .h)))

/-- CP L (42_alu8.md rule R273). -/
def exec_cp_L (s : State) : Outcome := .next (s.alu .cp (.loc (.reg .l)))

/-- CP (HL) (42_alu8.md rule R273). -/
def exec_cp_atHL (s : State) : Outcome := .next (s.alu .cp (.mem .atHL))

/-- CP A (42_alu8.md rule R273). -/
def exec_cp_A (s : State) : Outcome := .next (s.alu .cp (.loc (.reg .a)))

/-- ADD A,n (42_alu8.md rule R266). -/
def exec_add_A_n (n : Byte) (s : State) : Outcome := .next (s.alu .add (.imm n))

/-- ADC A,n (42_alu8.md rule R267). -/
def exec_adc_A_n (n : Byte) (s : State) : Outcome := .next (s.alu .adc (.imm n))

/-- SUB n (42_alu8.md rule R268). -/
def exec_sub_n (n : Byte) (s : State) : Outcome := .next (s.alu .sub (.imm n))

/-- SBC A,n (42_alu8.md rule R269). -/
def exec_sbc_A_n (n : Byte) (s : State) : Outcome := .next (s.alu .sbc (.imm n))

/-- AND n (42_alu8.md rule R270). -/
def exec_and_n (n : Byte) (s : State) : Outcome := .next (s.alu .and (.imm n))

/-- XOR n (42_alu8.md rule R271). -/
def exec_xor_n (n : Byte) (s : State) : Outcome := .next (s.alu .xor (.imm n))

/-- OR n (42_alu8.md rule R272). -/
def exec_or_n (n : Byte) (s : State) : Outcome := .next (s.alu .or (.imm n))

/-- CP n (42_alu8.md rule R273). -/
def exec_cp_n (n : Byte) (s : State) : Outcome := .next (s.alu .cp (.imm n))

/-- NEG (42_alu8.md rule R280). -/
def exec_neg (_y : Fin 8) (s : State) : Outcome := .next (s.neg)

/-- INC IXH (42_alu8.md rule R274). -/
def exec_inc_IXH (s : State) : Outcome := .next (s.incLoc (.half .ix .hi))

/-- DEC IXH (42_alu8.md rule R276). -/
def exec_dec_IXH (s : State) : Outcome := .next (s.decLoc (.half .ix .hi))

/-- INC IXL (42_alu8.md rule R274). -/
def exec_inc_IXL (s : State) : Outcome := .next (s.incLoc (.half .ix .lo))

/-- DEC IXL (42_alu8.md rule R276). -/
def exec_dec_IXL (s : State) : Outcome := .next (s.decLoc (.half .ix .lo))

/-- INC (IX+d) (42_alu8.md rule R275). -/
def exec_inc_atIXd (d : Byte) (s : State) : Outcome := .next (s.incMem (.atIdx .ix d))

/-- DEC (IX+d) (42_alu8.md rule R277). -/
def exec_dec_atIXd (d : Byte) (s : State) : Outcome := .next (s.decMem (.atIdx .ix d))

/-- ADD A,IXH (42_alu8.md rule R266). -/
def exec_add_A_IXH (s : State) : Outcome := .next (s.alu .add (.loc (.half .ix .hi)))

/-- ADD A,IXL (42_alu8.md rule R266). -/
def exec_add_A_IXL (s : State) : Outcome := .next (s.alu .add (.loc (.half .ix .lo)))

/-- ADD A,(IX+d) (42_alu8.md rule R266). -/
def exec_add_A_atIXd (d : Byte) (s : State) : Outcome := .next (s.alu .add (.mem (.atIdx .ix d)))

/-- ADC A,IXH (42_alu8.md rule R267). -/
def exec_adc_A_IXH (s : State) : Outcome := .next (s.alu .adc (.loc (.half .ix .hi)))

/-- ADC A,IXL (42_alu8.md rule R267). -/
def exec_adc_A_IXL (s : State) : Outcome := .next (s.alu .adc (.loc (.half .ix .lo)))

/-- ADC A,(IX+d) (42_alu8.md rule R267). -/
def exec_adc_A_atIXd (d : Byte) (s : State) : Outcome := .next (s.alu .adc (.mem (.atIdx .ix d)))

/-- SUB IXH (42_alu8.md rule R268). -/
def exec_sub_IXH (s : State) : Outcome := .next (s.alu .sub (.loc (.half .ix .hi)))

/-- SUB IXL (42_alu8.md rule R268). -/
def exec_sub_IXL (s : State) : Outcome := .next (s.alu .sub (.loc (.half .ix .lo)))

/-- SUB (IX+d) (42_alu8.md rule R268). -/
def exec_sub_atIXd (d : Byte) (s : State) : Outcome := .next (s.alu .sub (.mem (.atIdx .ix d)))

/-- SBC A,IXH (42_alu8.md rule R269). -/
def exec_sbc_A_IXH (s : State) : Outcome := .next (s.alu .sbc (.loc (.half .ix .hi)))

/-- SBC A,IXL (42_alu8.md rule R269). -/
def exec_sbc_A_IXL (s : State) : Outcome := .next (s.alu .sbc (.loc (.half .ix .lo)))

/-- SBC A,(IX+d) (42_alu8.md rule R269). -/
def exec_sbc_A_atIXd (d : Byte) (s : State) : Outcome := .next (s.alu .sbc (.mem (.atIdx .ix d)))

/-- AND IXH (42_alu8.md rule R270). -/
def exec_and_IXH (s : State) : Outcome := .next (s.alu .and (.loc (.half .ix .hi)))

/-- AND IXL (42_alu8.md rule R270). -/
def exec_and_IXL (s : State) : Outcome := .next (s.alu .and (.loc (.half .ix .lo)))

/-- AND (IX+d) (42_alu8.md rule R270). -/
def exec_and_atIXd (d : Byte) (s : State) : Outcome := .next (s.alu .and (.mem (.atIdx .ix d)))

/-- XOR IXH (42_alu8.md rule R271). -/
def exec_xor_IXH (s : State) : Outcome := .next (s.alu .xor (.loc (.half .ix .hi)))

/-- XOR IXL (42_alu8.md rule R271). -/
def exec_xor_IXL (s : State) : Outcome := .next (s.alu .xor (.loc (.half .ix .lo)))

/-- XOR (IX+d) (42_alu8.md rule R271). -/
def exec_xor_atIXd (d : Byte) (s : State) : Outcome := .next (s.alu .xor (.mem (.atIdx .ix d)))

/-- OR IXH (42_alu8.md rule R272). -/
def exec_or_IXH (s : State) : Outcome := .next (s.alu .or (.loc (.half .ix .hi)))

/-- OR IXL (42_alu8.md rule R272). -/
def exec_or_IXL (s : State) : Outcome := .next (s.alu .or (.loc (.half .ix .lo)))

/-- OR (IX+d) (42_alu8.md rule R272). -/
def exec_or_atIXd (d : Byte) (s : State) : Outcome := .next (s.alu .or (.mem (.atIdx .ix d)))

/-- CP IXH (42_alu8.md rule R273). -/
def exec_cp_IXH (s : State) : Outcome := .next (s.alu .cp (.loc (.half .ix .hi)))

/-- CP IXL (42_alu8.md rule R273). -/
def exec_cp_IXL (s : State) : Outcome := .next (s.alu .cp (.loc (.half .ix .lo)))

/-- CP (IX+d) (42_alu8.md rule R273). -/
def exec_cp_atIXd (d : Byte) (s : State) : Outcome := .next (s.alu .cp (.mem (.atIdx .ix d)))

/-- INC IYH (42_alu8.md rule R274). -/
def exec_inc_IYH (s : State) : Outcome := .next (s.incLoc (.half .iy .hi))

/-- DEC IYH (42_alu8.md rule R276). -/
def exec_dec_IYH (s : State) : Outcome := .next (s.decLoc (.half .iy .hi))

/-- INC IYL (42_alu8.md rule R274). -/
def exec_inc_IYL (s : State) : Outcome := .next (s.incLoc (.half .iy .lo))

/-- DEC IYL (42_alu8.md rule R276). -/
def exec_dec_IYL (s : State) : Outcome := .next (s.decLoc (.half .iy .lo))

/-- INC (IY+d) (42_alu8.md rule R275). -/
def exec_inc_atIYd (d : Byte) (s : State) : Outcome := .next (s.incMem (.atIdx .iy d))

/-- DEC (IY+d) (42_alu8.md rule R277). -/
def exec_dec_atIYd (d : Byte) (s : State) : Outcome := .next (s.decMem (.atIdx .iy d))

/-- ADD A,IYH (42_alu8.md rule R266). -/
def exec_add_A_IYH (s : State) : Outcome := .next (s.alu .add (.loc (.half .iy .hi)))

/-- ADD A,IYL (42_alu8.md rule R266). -/
def exec_add_A_IYL (s : State) : Outcome := .next (s.alu .add (.loc (.half .iy .lo)))

/-- ADD A,(IY+d) (42_alu8.md rule R266). -/
def exec_add_A_atIYd (d : Byte) (s : State) : Outcome := .next (s.alu .add (.mem (.atIdx .iy d)))

/-- ADC A,IYH (42_alu8.md rule R267). -/
def exec_adc_A_IYH (s : State) : Outcome := .next (s.alu .adc (.loc (.half .iy .hi)))

/-- ADC A,IYL (42_alu8.md rule R267). -/
def exec_adc_A_IYL (s : State) : Outcome := .next (s.alu .adc (.loc (.half .iy .lo)))

/-- ADC A,(IY+d) (42_alu8.md rule R267). -/
def exec_adc_A_atIYd (d : Byte) (s : State) : Outcome := .next (s.alu .adc (.mem (.atIdx .iy d)))

/-- SUB IYH (42_alu8.md rule R268). -/
def exec_sub_IYH (s : State) : Outcome := .next (s.alu .sub (.loc (.half .iy .hi)))

/-- SUB IYL (42_alu8.md rule R268). -/
def exec_sub_IYL (s : State) : Outcome := .next (s.alu .sub (.loc (.half .iy .lo)))

/-- SUB (IY+d) (42_alu8.md rule R268). -/
def exec_sub_atIYd (d : Byte) (s : State) : Outcome := .next (s.alu .sub (.mem (.atIdx .iy d)))

/-- SBC A,IYH (42_alu8.md rule R269). -/
def exec_sbc_A_IYH (s : State) : Outcome := .next (s.alu .sbc (.loc (.half .iy .hi)))

/-- SBC A,IYL (42_alu8.md rule R269). -/
def exec_sbc_A_IYL (s : State) : Outcome := .next (s.alu .sbc (.loc (.half .iy .lo)))

/-- SBC A,(IY+d) (42_alu8.md rule R269). -/
def exec_sbc_A_atIYd (d : Byte) (s : State) : Outcome := .next (s.alu .sbc (.mem (.atIdx .iy d)))

/-- AND IYH (42_alu8.md rule R270). -/
def exec_and_IYH (s : State) : Outcome := .next (s.alu .and (.loc (.half .iy .hi)))

/-- AND IYL (42_alu8.md rule R270). -/
def exec_and_IYL (s : State) : Outcome := .next (s.alu .and (.loc (.half .iy .lo)))

/-- AND (IY+d) (42_alu8.md rule R270). -/
def exec_and_atIYd (d : Byte) (s : State) : Outcome := .next (s.alu .and (.mem (.atIdx .iy d)))

/-- XOR IYH (42_alu8.md rule R271). -/
def exec_xor_IYH (s : State) : Outcome := .next (s.alu .xor (.loc (.half .iy .hi)))

/-- XOR IYL (42_alu8.md rule R271). -/
def exec_xor_IYL (s : State) : Outcome := .next (s.alu .xor (.loc (.half .iy .lo)))

/-- XOR (IY+d) (42_alu8.md rule R271). -/
def exec_xor_atIYd (d : Byte) (s : State) : Outcome := .next (s.alu .xor (.mem (.atIdx .iy d)))

/-- OR IYH (42_alu8.md rule R272). -/
def exec_or_IYH (s : State) : Outcome := .next (s.alu .or (.loc (.half .iy .hi)))

/-- OR IYL (42_alu8.md rule R272). -/
def exec_or_IYL (s : State) : Outcome := .next (s.alu .or (.loc (.half .iy .lo)))

/-- OR (IY+d) (42_alu8.md rule R272). -/
def exec_or_atIYd (d : Byte) (s : State) : Outcome := .next (s.alu .or (.mem (.atIdx .iy d)))

/-- CP IYH (42_alu8.md rule R273). -/
def exec_cp_IYH (s : State) : Outcome := .next (s.alu .cp (.loc (.half .iy .hi)))

/-- CP IYL (42_alu8.md rule R273). -/
def exec_cp_IYL (s : State) : Outcome := .next (s.alu .cp (.loc (.half .iy .lo)))

/-- CP (IY+d) (42_alu8.md rule R273). -/
def exec_cp_atIYd (d : Byte) (s : State) : Outcome := .next (s.alu .cp (.mem (.atIdx .iy d)))

end Sys2Proof.Machine
end

