-- ==== Sys2Proof/Machine/Block.lean ====
section
/-! DEFINITION. The block instructions (45_block.md rules R360 to R380). -/

namespace Sys2Proof.Machine

/-- `dir` as a 16-bit addend: +1 for the I-form, -1 for the D-form. -/
def blockStep (up : Bool) : Word := if up then 0x0001 else 0xFFFF

/-- `LDx(dir)` (45_block.md rule R360). -/
def State.ldxIterate (s : State) (up : Bool) : State :=
  let v := s.readMem s.hl
  let s1 := v.2.writeMem s.de v.1
  let s2 := ((s1.set16 .hl (s.hl + blockStep up)).set16 .de (s.de + blockStep up)).set16 .bc (s.bc - 1)
  s2.setF (ldxFlags v.1 s.main.a s.main.f (s.bc - 1))

/-- `CPx(dir)` (45_block.md rule R361). -/
def State.cpxIterate (s : State) (up : Bool) : State :=
  let v := s.readMem s.hl
  let s1 := (v.2.set16 .hl (s.hl + blockStep up)).set16 .bc (s.bc - 1)
  (s1.setWz (s.wz + blockStep up)).setF (cpxFlags s.main.a v.1 s.main.f (s.bc - 1))

/-- `INx(dir)` (45_block.md rule R362). -/
def State.inxIterate (s : State) (up : Bool) : State :=
  let v := s.ioRead s.bc
  let s1 := v.2.writeMem s.hl v.1
  let s2 := (s1.set8 .b (s.main.b - 1)).set16 .hl (s.hl + blockStep up)
  (s2.setWz (s.bc + blockStep up)).setF (ioxFlags (s.main.b - 1) v.1 (s.main.c + loByte (blockStep up)))

/-- `OUTx(dir)` (45_block.md rule R363). -/
def State.outxIterate (s : State) (up : Bool) : State :=
  let v := s.readMem s.hl
  let s1 := v.2.set8 .b (s.main.b - 1)
  let s2 := (s1.ioWrite s1.bc v.1).set16 .hl (s.hl + blockStep up)
  (s2.setWz (s2.bc + blockStep up)).setF (ioxFlags (s.main.b - 1) v.1 s2.main.l)

/-- One iteration of a family. -/
def State.blockIterate (s : State) (fam : BlockFamily) (up : Bool) : State :=
  match fam with
  | .ld => s.ldxIterate up
  | .cp => s.cpxIterate up
  | .inp => s.inxIterate up
  | .outp => s.outxIterate up

/-- The repeat condition, read after the iteration (45_block.md rule R364). -/
def State.blockContinues (s : State) (fam : BlockFamily) : Bool :=
  match fam with
  | .ld => s.bc != 0
  | .cp => s.bc != 0 && !flagZ s.main.f
  | .inp | .outp => s.main.b != 0

/-- The rewind to the ED byte (45_block.md rule R364). -/
def State.blockRewind (s : State) (fam : BlockFamily) : State :=
  let s1 : State := { s with pc := s.pc - 2 }
  match fam with
  | .ld | .cp => (s1.setWz (s1.pc + 1)).tick 5
  | .inp | .outp => s1.tick 5

/-- A block instruction: one iteration, and for a repeating form whose condition holds the rewind
(45_block.md rules R364 to R380). -/
def State.block (s : State) (fam : BlockFamily) (up rep : Bool) : State :=
  let t := (s.blockIterate fam up).tick 16
  if rep && t.blockContinues fam then t.blockRewind fam else t

/-! ### One meaning per instruction -/

/-- LDI (45_block.md rule R365). -/
def exec_ldi (s : State) : Outcome := .next (s.block .ld true false)

/-- CPI (45_block.md rule R369). -/
def exec_cpi (s : State) : Outcome := .next (s.block .cp true false)

/-- INI (45_block.md rule R373). -/
def exec_ini (s : State) : Outcome := .next (s.block .inp true false)

/-- OUTI (45_block.md rule R377). -/
def exec_outi (s : State) : Outcome := .next (s.block .outp true false)

/-- LDD (45_block.md rule R366). -/
def exec_ldd (s : State) : Outcome := .next (s.block .ld false false)

/-- CPD (45_block.md rule R370). -/
def exec_cpd (s : State) : Outcome := .next (s.block .cp false false)

/-- IND (45_block.md rule R374). -/
def exec_ind (s : State) : Outcome := .next (s.block .inp false false)

/-- OUTD (45_block.md rule R378). -/
def exec_outd (s : State) : Outcome := .next (s.block .outp false false)

/-- LDIR (45_block.md rule R367). -/
def exec_ldir (s : State) : Outcome := .next (s.block .ld true true)

/-- CPIR (45_block.md rule R371). -/
def exec_cpir (s : State) : Outcome := .next (s.block .cp true true)

/-- INIR (45_block.md rule R375). -/
def exec_inir (s : State) : Outcome := .next (s.block .inp true true)

/-- OTIR (45_block.md rule R379). -/
def exec_otir (s : State) : Outcome := .next (s.block .outp true true)

/-- LDDR (45_block.md rule R368). -/
def exec_lddr (s : State) : Outcome := .next (s.block .ld false true)

/-- CPDR (45_block.md rule R372). -/
def exec_cpdr (s : State) : Outcome := .next (s.block .cp false true)

/-- INDR (45_block.md rule R376). -/
def exec_indr (s : State) : Outcome := .next (s.block .inp false true)

/-- OTDR (45_block.md rule R380). -/
def exec_otdr (s : State) : Outcome := .next (s.block .outp false true)

end Sys2Proof.Machine
end

