-- ==== Sys2Proof/Machine/ControlFlow.lean ====
section
/-! DEFINITION. Jumps, calls, returns and restarts (47_control_flow.md rules R400 to R413). -/

namespace Sys2Proof.Machine

/-- JP nn (47_control_flow.md rule R400). -/
def State.jp (s : State) (nn : Word) : State := (s.jumpTo nn).tick 10

/-- JP cc,nn: WZ is written whether or not the jump is taken (47_control_flow.md rule R401). -/
def State.jpCc (s : State) (k : Cond) (nn : Word) : State :=
  (if condHolds k s.main.f then s.jumpTo nn else s.setWz nn).tick 10

/-- JR e (47_control_flow.md rule R402). -/
def State.jr (s : State) (e : Byte) : State := (s.jumpTo (displaced s.pc e)).tick 12

/-- The four conditions of JR cc (47_control_flow.md rule R403). -/
def jrCond (k : Fin 4) : Cond :=
  match k.val with
  | 0 => .nz
  | 1 => .z
  | 2 => .nc
  | _ => .c

/-- JR cc,e (47_control_flow.md rule R403). -/
def State.jrCc (s : State) (k : Cond) (e : Byte) : State :=
  if condHolds k s.main.f then (s.jumpTo (displaced s.pc e)).tick 12 else s.tick 7

/-- DJNZ e (47_control_flow.md rule R404). -/
def State.djnz (s : State) (e : Byte) : State :=
  let s1 := s.set8 .b (s.main.b - 1)
  if s1.main.b ≠ 0 then (s1.jumpTo (displaced s1.pc e)).tick 13 else s1.tick 8

/-- JP (HL), JP (IX), JP (IY) (47_control_flow.md rules R405, R406). -/
def State.jpReg (s : State) (k : Reg16) : State := (s.jumpTo (s.get16 k)).tick 4

/-- PC is pushed and PC and WZ take the target (47_control_flow.md rule R407). -/
def State.callTo (s : State) (nn : Word) : State := (s.push16 s.pc).jumpTo nn

/-- CALL nn (47_control_flow.md rule R407). -/
def State.call (s : State) (nn : Word) : State := (s.callTo nn).tick 17

/-- CALL cc,nn: WZ is written whether or not the call is taken (47_control_flow.md rule R408). -/
def State.callCc (s : State) (k : Cond) (nn : Word) : State :=
  if condHolds k s.main.f then (s.callTo nn).tick 17 else (s.setWz nn).tick 10

/-- RET (47_control_flow.md rule R409). -/
def State.ret (s : State) : State := s.returnToCaller.tick 10

/-- RET cc (47_control_flow.md rule R410). -/
def State.retCc (s : State) (k : Cond) : State :=
  if condHolds k s.main.f then s.returnToCaller.tick 11 else s.tick 5

/-- RETI (47_control_flow.md rule R411). -/
def State.reti (s : State) : State := (s.returnFromHandler.record .signalReti).tick 14

/-- RETN (47_control_flow.md rule R412). -/
def State.retn (s : State) : State := s.returnFromHandler.tick 14

/-- The target of RST y*8 (47_control_flow.md rule R413). -/
def rstTarget (y : Fin 8) : Word := BitVec.ofNat 16 (8 * y.val)

/-- RST y*8 (47_control_flow.md rule R413). -/
def State.rst (s : State) (y : Fin 8) : State := (s.enterHandler (rstTarget y)).tick 11

/-! ### One meaning per instruction -/

/-- DJNZ e (47_control_flow.md rule R404). -/
def exec_djnz_e (e : Byte) (s : State) : Outcome := .next (s.djnz e)

/-- JR e (47_control_flow.md rule R402). -/
def exec_jr_e (e : Byte) (s : State) : Outcome := .next (s.jr e)

/-- JR NZ,e (47_control_flow.md rule R403). -/
def exec_jr_NZ_e (e : Byte) (s : State) : Outcome := .next (s.jrCc .nz e)

/-- JR Z,e (47_control_flow.md rule R403). -/
def exec_jr_Z_e (e : Byte) (s : State) : Outcome := .next (s.jrCc .z e)

/-- JR NC,e (47_control_flow.md rule R403). -/
def exec_jr_NC_e (e : Byte) (s : State) : Outcome := .next (s.jrCc .nc e)

/-- JR C,e (47_control_flow.md rule R403). -/
def exec_jr_C_e (e : Byte) (s : State) : Outcome := .next (s.jrCc .c e)

/-- RET NZ (47_control_flow.md rule R410). -/
def exec_ret_NZ (s : State) : Outcome := .next (s.retCc .nz)

/-- JP NZ,nn (47_control_flow.md rule R401). -/
def exec_jp_NZ_nn (nn : Word) (s : State) : Outcome := .next (s.jpCc .nz nn)

/-- JP nn (47_control_flow.md rule R400). -/
def exec_jp_nn (nn : Word) (s : State) : Outcome := .next (s.jp nn)

/-- CALL NZ,nn (47_control_flow.md rule R408). -/
def exec_call_NZ_nn (nn : Word) (s : State) : Outcome := .next (s.callCc .nz nn)

/-- RST 00H (47_control_flow.md rule R413). -/
def exec_rst_00 (s : State) : Outcome := .next (s.rst 0)

/-- RET Z (47_control_flow.md rule R410). -/
def exec_ret_Z (s : State) : Outcome := .next (s.retCc .z)

/-- RET (47_control_flow.md rule R409). -/
def exec_ret (s : State) : Outcome := .next (s.ret)

/-- JP Z,nn (47_control_flow.md rule R401). -/
def exec_jp_Z_nn (nn : Word) (s : State) : Outcome := .next (s.jpCc .z nn)

/-- CALL Z,nn (47_control_flow.md rule R408). -/
def exec_call_Z_nn (nn : Word) (s : State) : Outcome := .next (s.callCc .z nn)

/-- CALL nn (47_control_flow.md rule R407). -/
def exec_call_nn (nn : Word) (s : State) : Outcome := .next (s.call nn)

/-- RST 08H (47_control_flow.md rule R413). -/
def exec_rst_08 (s : State) : Outcome := .next (s.rst 1)

/-- RET NC (47_control_flow.md rule R410). -/
def exec_ret_NC (s : State) : Outcome := .next (s.retCc .nc)

/-- JP NC,nn (47_control_flow.md rule R401). -/
def exec_jp_NC_nn (nn : Word) (s : State) : Outcome := .next (s.jpCc .nc nn)

/-- CALL NC,nn (47_control_flow.md rule R408). -/
def exec_call_NC_nn (nn : Word) (s : State) : Outcome := .next (s.callCc .nc nn)

/-- RST 10H (47_control_flow.md rule R413). -/
def exec_rst_10 (s : State) : Outcome := .next (s.rst 2)

/-- RET C (47_control_flow.md rule R410). -/
def exec_ret_C (s : State) : Outcome := .next (s.retCc .c)

/-- JP C,nn (47_control_flow.md rule R401). -/
def exec_jp_C_nn (nn : Word) (s : State) : Outcome := .next (s.jpCc .c nn)

/-- CALL C,nn (47_control_flow.md rule R408). -/
def exec_call_C_nn (nn : Word) (s : State) : Outcome := .next (s.callCc .c nn)

/-- RST 18H (47_control_flow.md rule R413). -/
def exec_rst_18 (s : State) : Outcome := .next (s.rst 3)

/-- RET PO (47_control_flow.md rule R410). -/
def exec_ret_PO (s : State) : Outcome := .next (s.retCc .po)

/-- JP PO,nn (47_control_flow.md rule R401). -/
def exec_jp_PO_nn (nn : Word) (s : State) : Outcome := .next (s.jpCc .po nn)

/-- CALL PO,nn (47_control_flow.md rule R408). -/
def exec_call_PO_nn (nn : Word) (s : State) : Outcome := .next (s.callCc .po nn)

/-- RST 20H (47_control_flow.md rule R413). -/
def exec_rst_20 (s : State) : Outcome := .next (s.rst 4)

/-- RET PE (47_control_flow.md rule R410). -/
def exec_ret_PE (s : State) : Outcome := .next (s.retCc .pe)

/-- JP (HL) (47_control_flow.md rule R405). -/
def exec_jp_atHL (s : State) : Outcome := .next (s.jpReg .hl)

/-- JP PE,nn (47_control_flow.md rule R401). -/
def exec_jp_PE_nn (nn : Word) (s : State) : Outcome := .next (s.jpCc .pe nn)

/-- CALL PE,nn (47_control_flow.md rule R408). -/
def exec_call_PE_nn (nn : Word) (s : State) : Outcome := .next (s.callCc .pe nn)

/-- RST 28H (47_control_flow.md rule R413). -/
def exec_rst_28 (s : State) : Outcome := .next (s.rst 5)

/-- RET P (47_control_flow.md rule R410). -/
def exec_ret_P (s : State) : Outcome := .next (s.retCc .p)

/-- JP P,nn (47_control_flow.md rule R401). -/
def exec_jp_P_nn (nn : Word) (s : State) : Outcome := .next (s.jpCc .p nn)

/-- CALL P,nn (47_control_flow.md rule R408). -/
def exec_call_P_nn (nn : Word) (s : State) : Outcome := .next (s.callCc .p nn)

/-- RST 30H (47_control_flow.md rule R413). -/
def exec_rst_30 (s : State) : Outcome := .next (s.rst 6)

/-- RET M (47_control_flow.md rule R410). -/
def exec_ret_M (s : State) : Outcome := .next (s.retCc .m)

/-- JP M,nn (47_control_flow.md rule R401). -/
def exec_jp_M_nn (nn : Word) (s : State) : Outcome := .next (s.jpCc .m nn)

/-- CALL M,nn (47_control_flow.md rule R408). -/
def exec_call_M_nn (nn : Word) (s : State) : Outcome := .next (s.callCc .m nn)

/-- RST 38H (47_control_flow.md rule R413). -/
def exec_rst_38 (s : State) : Outcome := .next (s.rst 7)

/-- RETN (47_control_flow.md rule R412). -/
def exec_retn (_y : Fin 8) (s : State) : Outcome := .next (s.retn)

/-- RETI (47_control_flow.md rule R411). -/
def exec_reti (s : State) : Outcome := .next (s.reti)

/-- JP (IX) (47_control_flow.md rule R406). -/
def exec_jp_atIX (s : State) : Outcome := .next (s.jpReg .ix)

/-- JP (IY) (47_control_flow.md rule R406). -/
def exec_jp_atIY (s : State) : Outcome := .next (s.jpReg .iy)

end Sys2Proof.Machine
end

