-- ==== Sys2Proof/Machine/CpuControl.lean ====
section
/-! DEFINITION. CPU control, no-ops and prefix steps (48_cpu_control.md rules R430 to R437). -/

namespace Sys2Proof.Machine

/-- NOP (48_cpu_control.md rule R430). -/
def State.nop (s : State) : State := s.tick 4

/-- HALT: PC goes back to the HALT byte (48_cpu_control.md rule R431). -/
def State.halt (s : State) : State := ({ s with halted := true, pc := s.pc - 1 } : State).tick 4

/-- DI (48_cpu_control.md rule R432). -/
def State.di (s : State) : State := ({ s with iff1 := false, iff2 := false } : State).tick 4

/-- EI (48_cpu_control.md rule R433). -/
def State.ei (s : State) : State :=
  ({ s with iff1 := true, iff2 := true, eiPending := true } : State).tick 4

/-- IM (48_cpu_control.md rule R434). -/
def State.setIm (s : State) (m : IntMode) : State := ({ s with im := m } : State).tick 8

/-- Table `im` (30_encoding.md rule R107). -/
def imMode (y : Fin 8) : IntMode :=
  match imOfField y with
  | 0 => .im0
  | 1 => .im1
  | _ => .im2

/-- An ED no-op (48_cpu_control.md rule R435). -/
def State.noni (s : State) : State := s.tick 8

/-- A prefix step (48_cpu_control.md rule R436). -/
def State.index (s : State) (m : IdxReg) : State :=
  match m with
  | .ix => ({ s with indexMode := .ix } : State).tick 4
  | .iy => ({ s with indexMode := .iy } : State).tick 4

/-! ### One meaning per instruction -/

/-- NOP (48_cpu_control.md rule R430). -/
def exec_nop (s : State) : Outcome := .next (s.nop)

/-- HALT (48_cpu_control.md rule R431). -/
def exec_halt (s : State) : Outcome := .next (s.halt)

/-- prefix IX (48_cpu_control.md rule R436). -/
def exec_prefixIX (s : State) : Outcome := .next (s.index .ix)

/-- DI (48_cpu_control.md rule R432). -/
def exec_di (s : State) : Outcome := .next (s.di)

/-- EI (48_cpu_control.md rule R433). -/
def exec_ei (s : State) : Outcome := .next (s.ei)

/-- prefix IY (48_cpu_control.md rule R436). -/
def exec_prefixIY (s : State) : Outcome := .next (s.index .iy)

/-- NONI (48_cpu_control.md rule R435). -/
def exec_noni (_op : Byte) (s : State) : Outcome := .next (s.noni)

/-- IM 0 (48_cpu_control.md rule R434). -/
def exec_im_0 (_y : Fin 8) (s : State) : Outcome := .next (s.setIm .im0)

/-- IM 1 (48_cpu_control.md rule R434). -/
def exec_im_1 (_y : Fin 8) (s : State) : Outcome := .next (s.setIm .im1)

/-- IM 2 (48_cpu_control.md rule R434). -/
def exec_im_2 (_y : Fin 8) (s : State) : Outcome := .next (s.setIm .im2)

/-- prefix IX (overrides IX; last prefix wins) (48_cpu_control.md rule R436). -/
def exec_prefixIX_overIX (s : State) : Outcome := .next (s.index .ix)

/-- prefix IY (overrides IX; last prefix wins) (48_cpu_control.md rule R436). -/
def exec_prefixIY_overIX (s : State) : Outcome := .next (s.index .iy)

/-- prefix IX (overrides IY; last prefix wins) (48_cpu_control.md rule R436). -/
def exec_prefixIX_overIY (s : State) : Outcome := .next (s.index .ix)

/-- prefix IY (overrides IY; last prefix wins) (48_cpu_control.md rule R436). -/
def exec_prefixIY_overIY (s : State) : Outcome := .next (s.index .iy)

end Sys2Proof.Machine
end

