-- ==== Sys2Proof/Machine/InputOutput.lean ====
section
/-! DEFINITION. Input and output (46_io.md rules R385 to R390). -/

namespace Sys2Proof.Machine

/-- IN A,(n) (46_io.md rule R385). -/
def State.inA (s : State) (n : Byte) : State :=
  let port := pair s.main.a n
  let v := s.ioRead port
  ((v.2.set8 .a v.1).setWz (port + 1)).tick 11

/-- OUT (n),A (46_io.md rule R386). -/
def State.outA (s : State) (n : Byte) : State :=
  ((s.ioWrite (pair s.main.a n) s.main.a).setWz (pair s.main.a (n + 1))).tick 11

/-- IN r,(C) (46_io.md rule R387). -/
def State.inReg (s : State) (k : Reg8) : State :=
  let v := s.ioRead s.bc
  (((v.2.set8 k v.1).setF (szpKeepC v.1 s.main.f)).setWz (s.bc + 1)).tick 12

/-- IN F,(C) (46_io.md rule R388). -/
def State.inF (s : State) : State :=
  let v := s.ioRead s.bc
  ((v.2.setF (szpKeepC v.1 s.main.f)).setWz (s.bc + 1)).tick 12

/-- OUT (C) of a byte (46_io.md rules R389, R390). -/
def State.outC (s : State) (v : Byte) : State := ((s.ioWrite s.bc v).setWz (s.bc + 1)).tick 12

/-! ### One meaning per instruction -/

/-- OUT (n),A (46_io.md rule R386). -/
def exec_out_atN_A (n : Byte) (s : State) : Outcome := .next (s.outA n)

/-- IN A,(n) (46_io.md rule R385). -/
def exec_in_A_atN (n : Byte) (s : State) : Outcome := .next (s.inA n)

/-- IN B,(C) (46_io.md rule R387). -/
def exec_in_B_atC (s : State) : Outcome := .next (s.inReg .b)

/-- OUT (C),B (46_io.md rule R389). -/
def exec_out_atC_B (s : State) : Outcome := .next (s.outC (s.get8 .b))

/-- IN C,(C) (46_io.md rule R387). -/
def exec_in_C_atC (s : State) : Outcome := .next (s.inReg .c)

/-- OUT (C),C (46_io.md rule R389). -/
def exec_out_atC_C (s : State) : Outcome := .next (s.outC (s.get8 .c))

/-- IN D,(C) (46_io.md rule R387). -/
def exec_in_D_atC (s : State) : Outcome := .next (s.inReg .d)

/-- OUT (C),D (46_io.md rule R389). -/
def exec_out_atC_D (s : State) : Outcome := .next (s.outC (s.get8 .d))

/-- IN E,(C) (46_io.md rule R387). -/
def exec_in_E_atC (s : State) : Outcome := .next (s.inReg .e)

/-- OUT (C),E (46_io.md rule R389). -/
def exec_out_atC_E (s : State) : Outcome := .next (s.outC (s.get8 .e))

/-- IN H,(C) (46_io.md rule R387). -/
def exec_in_H_atC (s : State) : Outcome := .next (s.inReg .h)

/-- OUT (C),H (46_io.md rule R389). -/
def exec_out_atC_H (s : State) : Outcome := .next (s.outC (s.get8 .h))

/-- IN L,(C) (46_io.md rule R387). -/
def exec_in_L_atC (s : State) : Outcome := .next (s.inReg .l)

/-- OUT (C),L (46_io.md rule R389). -/
def exec_out_atC_L (s : State) : Outcome := .next (s.outC (s.get8 .l))

/-- IN F,(C) (46_io.md rule R388). -/
def exec_in_F_atC (s : State) : Outcome := .next (s.inF)

/-- OUT (C),0 (46_io.md rule R390). -/
def exec_out_atC_0 (s : State) : Outcome := .next (s.outC s.params.outCZero)

/-- IN A,(C) (46_io.md rule R387). -/
def exec_in_A_atC (s : State) : Outcome := .next (s.inReg .a)

/-- OUT (C),A (46_io.md rule R389). -/
def exec_out_atC_A (s : State) : Outcome := .next (s.outC (s.get8 .a))

end Sys2Proof.Machine
end

