-- ==== Sys2Proof/Machine/Load16.lean ====
section
/-! DEFINITION. 16-bit loads, the stack and the exchanges (41_load16_exchange.md rules R230 to R248). -/

namespace Sys2Proof.Machine

/-- A 16-bit register takes an immediate (41_load16_exchange.md rules R230, R231). -/
def State.load16Imm (s : State) (k : Reg16) (nn : Word) : State := (s.set16 k nn).tick 10

/-- A 16-bit register takes the word at `nn`, WZ takes `nn + 1`, in `t` T-states
(41_load16_exchange.md rules R232, R233, R236). -/
def State.load16Mem (s : State) (k : Reg16) (nn : Word) (t : Nat) : State :=
  let v := s.readMem16 nn
  ((v.2.set16 k v.1).setWz (nn + 1)).tick t

/-- The word at `nn` takes a 16-bit register, WZ takes `nn + 1`, in `t` T-states
(41_load16_exchange.md rules R234, R235, R237). -/
def State.store16 (s : State) (k : Reg16) (nn : Word) (t : Nat) : State :=
  ((s.writeMem16 nn (s.get16 k)).setWz (nn + 1)).tick t

/-- SP takes HL, IX or IY (41_load16_exchange.md rules R238, R239). -/
def State.loadSp (s : State) (k : Reg16) : State := (s.set16 .sp (s.get16 k)).tick 6

/-- PUSH (41_load16_exchange.md rules R240, R241). -/
def State.pushReg (s : State) (k : Reg16) : State := (s.push16 (s.get16 k)).tick 11

/-- POP (41_load16_exchange.md rules R242, R243). -/
def State.popReg (s : State) (k : Reg16) : State :=
  let v := s.pop16
  (v.2.set16 k v.1).tick 10

/-- EX DE,HL (41_load16_exchange.md rule R244). -/
def State.exDeHl (s : State) : State := ((s.set16 .de s.hl).set16 .hl s.de).tick 4

/-- EX AF,AF′ (41_load16_exchange.md rule R245). -/
def State.exAf (s : State) : State :=
  ({ s with
      main := { s.main with a := s.shadow.a, f := s.shadow.f }
      shadow := { s.shadow with a := s.main.a, f := s.main.f } } : State).tick 4

/-- EXX (41_load16_exchange.md rule R246). -/
def State.exx (s : State) : State :=
  ({ s with
      main := { s.shadow with a := s.main.a, f := s.main.f }
      shadow := { s.main with a := s.shadow.a, f := s.shadow.f } } : State).tick 4

/-- EX (SP),HL and its index forms: (SP), (SP+1) are read, then (SP+1), (SP) are written
(41_load16_exchange.md rules R247, R248). -/
def State.exSp (s : State) (k : Reg16) : State :=
  let lo := s.readMem s.sp
  let hi := lo.2.readMem (s.sp + 1)
  let s1 := hi.2.writeMem (s.sp + 1) (hiByte (s.get16 k))
  let s2 := s1.writeMem s.sp (loByte (s.get16 k))
  ((s2.set16 k (pair hi.1 lo.1)).setWz (pair hi.1 lo.1)).tick 19

/-! ### One meaning per instruction -/

/-- LD BC,nn (41_load16_exchange.md rule R230). -/
def exec_ld_BC_nn (nn : Word) (s : State) : Outcome := .next (s.load16Imm .bc nn)

/-- EX AF,AF' (41_load16_exchange.md rule R245). -/
def exec_ex_AF_AF (s : State) : Outcome := .next (s.exAf)

/-- LD DE,nn (41_load16_exchange.md rule R230). -/
def exec_ld_DE_nn (nn : Word) (s : State) : Outcome := .next (s.load16Imm .de nn)

/-- LD HL,nn (41_load16_exchange.md rule R230). -/
def exec_ld_HL_nn (nn : Word) (s : State) : Outcome := .next (s.load16Imm .hl nn)

/-- LD (nn),HL (41_load16_exchange.md rule R234). -/
def exec_ld_atNn_HL (nn : Word) (s : State) : Outcome := .next (s.store16 .hl nn 16)

/-- LD HL,(nn) (41_load16_exchange.md rule R232). -/
def exec_ld_HL_atNn (nn : Word) (s : State) : Outcome := .next (s.load16Mem .hl nn 16)

/-- LD SP,nn (41_load16_exchange.md rule R230). -/
def exec_ld_SP_nn (nn : Word) (s : State) : Outcome := .next (s.load16Imm .sp nn)

/-- POP BC (41_load16_exchange.md rule R242). -/
def exec_pop_BC (s : State) : Outcome := .next (s.popReg .bc)

/-- PUSH BC (41_load16_exchange.md rule R240). -/
def exec_push_BC (s : State) : Outcome := .next (s.pushReg .bc)

/-- POP DE (41_load16_exchange.md rule R242). -/
def exec_pop_DE (s : State) : Outcome := .next (s.popReg .de)

/-- PUSH DE (41_load16_exchange.md rule R240). -/
def exec_push_DE (s : State) : Outcome := .next (s.pushReg .de)

/-- EXX (41_load16_exchange.md rule R246). -/
def exec_exx (s : State) : Outcome := .next (s.exx)

/-- POP HL (41_load16_exchange.md rule R242). -/
def exec_pop_HL (s : State) : Outcome := .next (s.popReg .hl)

/-- EX (SP),HL (41_load16_exchange.md rule R247). -/
def exec_ex_atSP_HL (s : State) : Outcome := .next (s.exSp .hl)

/-- PUSH HL (41_load16_exchange.md rule R240). -/
def exec_push_HL (s : State) : Outcome := .next (s.pushReg .hl)

/-- EX DE,HL (41_load16_exchange.md rule R244). -/
def exec_ex_DE_HL (s : State) : Outcome := .next (s.exDeHl)

/-- POP AF (41_load16_exchange.md rule R242). -/
def exec_pop_AF (s : State) : Outcome := .next (s.popReg .af)

/-- PUSH AF (41_load16_exchange.md rule R240). -/
def exec_push_AF (s : State) : Outcome := .next (s.pushReg .af)

/-- LD SP,HL (41_load16_exchange.md rule R238). -/
def exec_ld_SP_HL (s : State) : Outcome := .next (s.loadSp .hl)

/-- LD (nn),BC (41_load16_exchange.md rule R237). -/
def exec_ld_atNn_BC (nn : Word) (s : State) : Outcome := .next (s.store16 .bc nn 20)

/-- LD BC,(nn) (41_load16_exchange.md rule R236). -/
def exec_ld_BC_atNn (nn : Word) (s : State) : Outcome := .next (s.load16Mem .bc nn 20)

/-- LD (nn),DE (41_load16_exchange.md rule R237). -/
def exec_ld_atNn_DE (nn : Word) (s : State) : Outcome := .next (s.store16 .de nn 20)

/-- LD DE,(nn) (41_load16_exchange.md rule R236). -/
def exec_ld_DE_atNn (nn : Word) (s : State) : Outcome := .next (s.load16Mem .de nn 20)

/-- LD (nn),HL, ED form (41_load16_exchange.md rule R237). -/
def exec_ld_atNn_HL_ed (nn : Word) (s : State) : Outcome := .next (s.store16 .hl nn 20)

/-- LD HL,(nn), ED form (41_load16_exchange.md rule R236). -/
def exec_ld_HL_atNn_ed (nn : Word) (s : State) : Outcome := .next (s.load16Mem .hl nn 20)

/-- LD (nn),SP (41_load16_exchange.md rule R237). -/
def exec_ld_atNn_SP (nn : Word) (s : State) : Outcome := .next (s.store16 .sp nn 20)

/-- LD SP,(nn) (41_load16_exchange.md rule R236). -/
def exec_ld_SP_atNn (nn : Word) (s : State) : Outcome := .next (s.load16Mem .sp nn 20)

/-- LD IX,nn (41_load16_exchange.md rule R231). -/
def exec_ld_IX_nn (nn : Word) (s : State) : Outcome := .next (s.load16Imm .ix nn)

/-- LD (nn),IX (41_load16_exchange.md rule R235). -/
def exec_ld_atNn_IX (nn : Word) (s : State) : Outcome := .next (s.store16 .ix nn 16)

/-- LD IX,(nn) (41_load16_exchange.md rule R233). -/
def exec_ld_IX_atNn (nn : Word) (s : State) : Outcome := .next (s.load16Mem .ix nn 16)

/-- POP IX (41_load16_exchange.md rule R243). -/
def exec_pop_IX (s : State) : Outcome := .next (s.popReg .ix)

/-- EX (SP),IX (41_load16_exchange.md rule R248). -/
def exec_ex_atSP_IX (s : State) : Outcome := .next (s.exSp .ix)

/-- PUSH IX (41_load16_exchange.md rule R241). -/
def exec_push_IX (s : State) : Outcome := .next (s.pushReg .ix)

/-- LD SP,IX (41_load16_exchange.md rule R239). -/
def exec_ld_SP_IX (s : State) : Outcome := .next (s.loadSp .ix)

/-- LD IY,nn (41_load16_exchange.md rule R231). -/
def exec_ld_IY_nn (nn : Word) (s : State) : Outcome := .next (s.load16Imm .iy nn)

/-- LD (nn),IY (41_load16_exchange.md rule R235). -/
def exec_ld_atNn_IY (nn : Word) (s : State) : Outcome := .next (s.store16 .iy nn 16)

/-- LD IY,(nn) (41_load16_exchange.md rule R233). -/
def exec_ld_IY_atNn (nn : Word) (s : State) : Outcome := .next (s.load16Mem .iy nn 16)

/-- POP IY (41_load16_exchange.md rule R243). -/
def exec_pop_IY (s : State) : Outcome := .next (s.popReg .iy)

/-- EX (SP),IY (41_load16_exchange.md rule R248). -/
def exec_ex_atSP_IY (s : State) : Outcome := .next (s.exSp .iy)

/-- PUSH IY (41_load16_exchange.md rule R241). -/
def exec_push_IY (s : State) : Outcome := .next (s.pushReg .iy)

/-- LD SP,IY (41_load16_exchange.md rule R239). -/
def exec_ld_SP_IY (s : State) : Outcome := .next (s.loadSp .iy)

end Sys2Proof.Machine
end

