-- ==== Sys2Proof/Machine/Load8.lean ====
section
/-! DEFINITION. 8-bit loads (40_load8.md rules R200 to R219). -/

namespace Sys2Proof.Machine

/-- A register or index half takes the source byte (40_load8.md rules R200 to R203, R214, R215). -/
def State.load8 (s : State) (k : Loc8) (o : Src8) : State :=
  let v := s.readSrc o
  (v.2.setLoc k v.1).tick (srcCycles o)

/-- A memory operand takes a register (40_load8.md rules R204, R205). -/
def State.store8 (s : State) (o : MemOp) (k : Reg8) : State :=
  (s.writeOperand o (s.get8 k)).tick (memCycles o 7 15)

/-- A memory operand takes an immediate (40_load8.md rules R206, R207). -/
def State.storeImm (s : State) (o : MemOp) (n : Byte) : State :=
  (s.writeOperand o n).tick (memCycles o 10 15)

/-- A takes the byte at `a`, WZ takes `a + 1`, in `t` T-states (40_load8.md rules R208 to R210). -/
def State.loadAFrom (s : State) (a : Word) (t : Nat) : State :=
  let v := s.readMem a
  ((v.2.set8 .a v.1).setWz (a + 1)).tick t

/-- The byte at `a` takes A, WZ takes A : `trunc_8(a[7:0] + 1)`, in `t` T-states
(40_load8.md rules R211 to R213). -/
def State.storeATo (s : State) (a : Word) (t : Nat) : State :=
  ((s.writeMem a s.main.a).setWz (pair s.main.a (loByte a + 1))).tick t

/-- A takes I or R, with its flags (40_load8.md rules R216, R217). -/
def State.loadAIr (s : State) (v : Byte) : State :=
  (s.setAF (v, loadIrFlags v s.main.f s.iff2)).tick 9

/-- I takes A (40_load8.md rule R218). -/
def State.loadIA (s : State) : State := ({ s with i := s.main.a } : State).tick 9

/-- R takes A, all 8 bits (40_load8.md rule R219). -/
def State.loadRA (s : State) : State := ({ s with r := s.main.a } : State).tick 9

/-! ### One meaning per instruction -/

/-- LD (BC),A (40_load8.md rule R211). -/
def exec_ld_atBC_A (s : State) : Outcome := .next (s.storeATo s.bc 7)

/-- LD B,n (40_load8.md rule R201). -/
def exec_ld_B_n (n : Byte) (s : State) : Outcome := .next (s.load8 (.reg .b) (.imm n))

/-- LD A,(BC) (40_load8.md rule R208). -/
def exec_ld_A_atBC (s : State) : Outcome := .next (s.loadAFrom s.bc 7)

/-- LD C,n (40_load8.md rule R201). -/
def exec_ld_C_n (n : Byte) (s : State) : Outcome := .next (s.load8 (.reg .c) (.imm n))

/-- LD (DE),A (40_load8.md rule R212). -/
def exec_ld_atDE_A (s : State) : Outcome := .next (s.storeATo s.de 7)

/-- LD D,n (40_load8.md rule R201). -/
def exec_ld_D_n (n : Byte) (s : State) : Outcome := .next (s.load8 (.reg .d) (.imm n))

/-- LD A,(DE) (40_load8.md rule R209). -/
def exec_ld_A_atDE (s : State) : Outcome := .next (s.loadAFrom s.de 7)

/-- LD E,n (40_load8.md rule R201). -/
def exec_ld_E_n (n : Byte) (s : State) : Outcome := .next (s.load8 (.reg .e) (.imm n))

/-- LD H,n (40_load8.md rule R201). -/
def exec_ld_H_n (n : Byte) (s : State) : Outcome := .next (s.load8 (.reg .h) (.imm n))

/-- LD L,n (40_load8.md rule R201). -/
def exec_ld_L_n (n : Byte) (s : State) : Outcome := .next (s.load8 (.reg .l) (.imm n))

/-- LD (nn),A (40_load8.md rule R213). -/
def exec_ld_atNn_A (nn : Word) (s : State) : Outcome := .next (s.storeATo nn 13)

/-- LD (HL),n (40_load8.md rule R206). -/
def exec_ld_atHL_n (n : Byte) (s : State) : Outcome := .next (s.storeImm .atHL n)

/-- LD A,(nn) (40_load8.md rule R210). -/
def exec_ld_A_atNn (nn : Word) (s : State) : Outcome := .next (s.loadAFrom nn 13)

/-- LD A,n (40_load8.md rule R201). -/
def exec_ld_A_n (n : Byte) (s : State) : Outcome := .next (s.load8 (.reg .a) (.imm n))

/-- LD B,B (40_load8.md rule R200). -/
def exec_ld_B_B (s : State) : Outcome := .next (s.load8 (.reg .b) (.loc (.reg .b)))

/-- LD B,C (40_load8.md rule R200). -/
def exec_ld_B_C (s : State) : Outcome := .next (s.load8 (.reg .b) (.loc (.reg .c)))

/-- LD B,D (40_load8.md rule R200). -/
def exec_ld_B_D (s : State) : Outcome := .next (s.load8 (.reg .b) (.loc (.reg .d)))

/-- LD B,E (40_load8.md rule R200). -/
def exec_ld_B_E (s : State) : Outcome := .next (s.load8 (.reg .b) (.loc (.reg .e)))

/-- LD B,H (40_load8.md rule R200). -/
def exec_ld_B_H (s : State) : Outcome := .next (s.load8 (.reg .b) (.loc (.reg .h)))

/-- LD B,L (40_load8.md rule R200). -/
def exec_ld_B_L (s : State) : Outcome := .next (s.load8 (.reg .b) (.loc (.reg .l)))

/-- LD B,(HL) (40_load8.md rule R202). -/
def exec_ld_B_atHL (s : State) : Outcome := .next (s.load8 (.reg .b) (.mem .atHL))

/-- LD B,A (40_load8.md rule R200). -/
def exec_ld_B_A (s : State) : Outcome := .next (s.load8 (.reg .b) (.loc (.reg .a)))

/-- LD C,B (40_load8.md rule R200). -/
def exec_ld_C_B (s : State) : Outcome := .next (s.load8 (.reg .c) (.loc (.reg .b)))

/-- LD C,C (40_load8.md rule R200). -/
def exec_ld_C_C (s : State) : Outcome := .next (s.load8 (.reg .c) (.loc (.reg .c)))

/-- LD C,D (40_load8.md rule R200). -/
def exec_ld_C_D (s : State) : Outcome := .next (s.load8 (.reg .c) (.loc (.reg .d)))

/-- LD C,E (40_load8.md rule R200). -/
def exec_ld_C_E (s : State) : Outcome := .next (s.load8 (.reg .c) (.loc (.reg .e)))

/-- LD C,H (40_load8.md rule R200). -/
def exec_ld_C_H (s : State) : Outcome := .next (s.load8 (.reg .c) (.loc (.reg .h)))

/-- LD C,L (40_load8.md rule R200). -/
def exec_ld_C_L (s : State) : Outcome := .next (s.load8 (.reg .c) (.loc (.reg .l)))

/-- LD C,(HL) (40_load8.md rule R202). -/
def exec_ld_C_atHL (s : State) : Outcome := .next (s.load8 (.reg .c) (.mem .atHL))

/-- LD C,A (40_load8.md rule R200). -/
def exec_ld_C_A (s : State) : Outcome := .next (s.load8 (.reg .c) (.loc (.reg .a)))

/-- LD D,B (40_load8.md rule R200). -/
def exec_ld_D_B (s : State) : Outcome := .next (s.load8 (.reg .d) (.loc (.reg .b)))

/-- LD D,C (40_load8.md rule R200). -/
def exec_ld_D_C (s : State) : Outcome := .next (s.load8 (.reg .d) (.loc (.reg .c)))

/-- LD D,D (40_load8.md rule R200). -/
def exec_ld_D_D (s : State) : Outcome := .next (s.load8 (.reg .d) (.loc (.reg .d)))

/-- LD D,E (40_load8.md rule R200). -/
def exec_ld_D_E (s : State) : Outcome := .next (s.load8 (.reg .d) (.loc (.reg .e)))

/-- LD D,H (40_load8.md rule R200). -/
def exec_ld_D_H (s : State) : Outcome := .next (s.load8 (.reg .d) (.loc (.reg .h)))

/-- LD D,L (40_load8.md rule R200). -/
def exec_ld_D_L (s : State) : Outcome := .next (s.load8 (.reg .d) (.loc (.reg .l)))

/-- LD D,(HL) (40_load8.md rule R202). -/
def exec_ld_D_atHL (s : State) : Outcome := .next (s.load8 (.reg .d) (.mem .atHL))

/-- LD D,A (40_load8.md rule R200). -/
def exec_ld_D_A (s : State) : Outcome := .next (s.load8 (.reg .d) (.loc (.reg .a)))

/-- LD E,B (40_load8.md rule R200). -/
def exec_ld_E_B (s : State) : Outcome := .next (s.load8 (.reg .e) (.loc (.reg .b)))

/-- LD E,C (40_load8.md rule R200). -/
def exec_ld_E_C (s : State) : Outcome := .next (s.load8 (.reg .e) (.loc (.reg .c)))

/-- LD E,D (40_load8.md rule R200). -/
def exec_ld_E_D (s : State) : Outcome := .next (s.load8 (.reg .e) (.loc (.reg .d)))

/-- LD E,E (40_load8.md rule R200). -/
def exec_ld_E_E (s : State) : Outcome := .next (s.load8 (.reg .e) (.loc (.reg .e)))

/-- LD E,H (40_load8.md rule R200). -/
def exec_ld_E_H (s : State) : Outcome := .next (s.load8 (.reg .e) (.loc (.reg .h)))

/-- LD E,L (40_load8.md rule R200). -/
def exec_ld_E_L (s : State) : Outcome := .next (s.load8 (.reg .e) (.loc (.reg .l)))

/-- LD E,(HL) (40_load8.md rule R202). -/
def exec_ld_E_atHL (s : State) : Outcome := .next (s.load8 (.reg .e) (.mem .atHL))

/-- LD E,A (40_load8.md rule R200). -/
def exec_ld_E_A (s : State) : Outcome := .next (s.load8 (.reg .e) (.loc (.reg .a)))

/-- LD H,B (40_load8.md rule R200). -/
def exec_ld_H_B (s : State) : Outcome := .next (s.load8 (.reg .h) (.loc (.reg .b)))

/-- LD H,C (40_load8.md rule R200). -/
def exec_ld_H_C (s : State) : Outcome := .next (s.load8 (.reg .h) (.loc (.reg .c)))

/-- LD H,D (40_load8.md rule R200). -/
def exec_ld_H_D (s : State) : Outcome := .next (s.load8 (.reg .h) (.loc (.reg .d)))

/-- LD H,E (40_load8.md rule R200). -/
def exec_ld_H_E (s : State) : Outcome := .next (s.load8 (.reg .h) (.loc (.reg .e)))

/-- LD H,H (40_load8.md rule R200). -/
def exec_ld_H_H (s : State) : Outcome := .next (s.load8 (.reg .h) (.loc (.reg .h)))

/-- LD H,L (40_load8.md rule R200). -/
def exec_ld_H_L (s : State) : Outcome := .next (s.load8 (.reg .h) (.loc (.reg .l)))

/-- LD H,(HL) (40_load8.md rule R202). -/
def exec_ld_H_atHL (s : State) : Outcome := .next (s.load8 (.reg .h) (.mem .atHL))

/-- LD H,A (40_load8.md rule R200). -/
def exec_ld_H_A (s : State) : Outcome := .next (s.load8 (.reg .h) (.loc (.reg .a)))

/-- LD L,B (40_load8.md rule R200). -/
def exec_ld_L_B (s : State) : Outcome := .next (s.load8 (.reg .l) (.loc (.reg .b)))

/-- LD L,C (40_load8.md rule R200). -/
def exec_ld_L_C (s : State) : Outcome := .next (s.load8 (.reg .l) (.loc (.reg .c)))

/-- LD L,D (40_load8.md rule R200). -/
def exec_ld_L_D (s : State) : Outcome := .next (s.load8 (.reg .l) (.loc (.reg .d)))

/-- LD L,E (40_load8.md rule R200). -/
def exec_ld_L_E (s : State) : Outcome := .next (s.load8 (.reg .l) (.loc (.reg .e)))

/-- LD L,H (40_load8.md rule R200). -/
def exec_ld_L_H (s : State) : Outcome := .next (s.load8 (.reg .l) (.loc (.reg .h)))

/-- LD L,L (40_load8.md rule R200). -/
def exec_ld_L_L (s : State) : Outcome := .next (s.load8 (.reg .l) (.loc (.reg .l)))

/-- LD L,(HL) (40_load8.md rule R202). -/
def exec_ld_L_atHL (s : State) : Outcome := .next (s.load8 (.reg .l) (.mem .atHL))

/-- LD L,A (40_load8.md rule R200). -/
def exec_ld_L_A (s : State) : Outcome := .next (s.load8 (.reg .l) (.loc (.reg .a)))

/-- LD (HL),B (40_load8.md rule R204). -/
def exec_ld_atHL_B (s : State) : Outcome := .next (s.store8 .atHL .b)

/-- LD (HL),C (40_load8.md rule R204). -/
def exec_ld_atHL_C (s : State) : Outcome := .next (s.store8 .atHL .c)

/-- LD (HL),D (40_load8.md rule R204). -/
def exec_ld_atHL_D (s : State) : Outcome := .next (s.store8 .atHL .d)

/-- LD (HL),E (40_load8.md rule R204). -/
def exec_ld_atHL_E (s : State) : Outcome := .next (s.store8 .atHL .e)

/-- LD (HL),H (40_load8.md rule R204). -/
def exec_ld_atHL_H (s : State) : Outcome := .next (s.store8 .atHL .h)

/-- LD (HL),L (40_load8.md rule R204). -/
def exec_ld_atHL_L (s : State) : Outcome := .next (s.store8 .atHL .l)

/-- LD (HL),A (40_load8.md rule R204). -/
def exec_ld_atHL_A (s : State) : Outcome := .next (s.store8 .atHL .a)

/-- LD A,B (40_load8.md rule R200). -/
def exec_ld_A_B (s : State) : Outcome := .next (s.load8 (.reg .a) (.loc (.reg .b)))

/-- LD A,C (40_load8.md rule R200). -/
def exec_ld_A_C (s : State) : Outcome := .next (s.load8 (.reg .a) (.loc (.reg .c)))

/-- LD A,D (40_load8.md rule R200). -/
def exec_ld_A_D (s : State) : Outcome := .next (s.load8 (.reg .a) (.loc (.reg .d)))

/-- LD A,E (40_load8.md rule R200). -/
def exec_ld_A_E (s : State) : Outcome := .next (s.load8 (.reg .a) (.loc (.reg .e)))

/-- LD A,H (40_load8.md rule R200). -/
def exec_ld_A_H (s : State) : Outcome := .next (s.load8 (.reg .a) (.loc (.reg .h)))

/-- LD A,L (40_load8.md rule R200). -/
def exec_ld_A_L (s : State) : Outcome := .next (s.load8 (.reg .a) (.loc (.reg .l)))

/-- LD A,(HL) (40_load8.md rule R202). -/
def exec_ld_A_atHL (s : State) : Outcome := .next (s.load8 (.reg .a) (.mem .atHL))

/-- LD A,A (40_load8.md rule R200). -/
def exec_ld_A_A (s : State) : Outcome := .next (s.load8 (.reg .a) (.loc (.reg .a)))

/-- LD I,A (40_load8.md rule R218). -/
def exec_ld_I_A (s : State) : Outcome := .next (s.loadIA)

/-- LD R,A (40_load8.md rule R219). -/
def exec_ld_R_A (s : State) : Outcome := .next (s.loadRA)

/-- LD A,I (40_load8.md rule R216). -/
def exec_ld_A_I (s : State) : Outcome := .next (s.loadAIr s.i)

/-- LD A,R (40_load8.md rule R217). -/
def exec_ld_A_R (s : State) : Outcome := .next (s.loadAIr s.r)

/-- LD IXH,n (40_load8.md rule R215). -/
def exec_ld_IXH_n (n : Byte) (s : State) : Outcome := .next (s.load8 (.half .ix .hi) (.imm n))

/-- LD IXL,n (40_load8.md rule R215). -/
def exec_ld_IXL_n (n : Byte) (s : State) : Outcome := .next (s.load8 (.half .ix .lo) (.imm n))

/-- LD (IX+d),n (40_load8.md rule R207). -/
def exec_ld_atIXd_n (d : Byte) (n : Byte) (s : State) : Outcome := .next (s.storeImm (.atIdx .ix d) n)

/-- LD B,IXH (40_load8.md rule R214). -/
def exec_ld_B_IXH (s : State) : Outcome := .next (s.load8 (.reg .b) (.loc (.half .ix .hi)))

/-- LD B,IXL (40_load8.md rule R214). -/
def exec_ld_B_IXL (s : State) : Outcome := .next (s.load8 (.reg .b) (.loc (.half .ix .lo)))

/-- LD B,(IX+d) (40_load8.md rule R203). -/
def exec_ld_B_atIXd (d : Byte) (s : State) : Outcome := .next (s.load8 (.reg .b) (.mem (.atIdx .ix d)))

/-- LD C,IXH (40_load8.md rule R214). -/
def exec_ld_C_IXH (s : State) : Outcome := .next (s.load8 (.reg .c) (.loc (.half .ix .hi)))

/-- LD C,IXL (40_load8.md rule R214). -/
def exec_ld_C_IXL (s : State) : Outcome := .next (s.load8 (.reg .c) (.loc (.half .ix .lo)))

/-- LD C,(IX+d) (40_load8.md rule R203). -/
def exec_ld_C_atIXd (d : Byte) (s : State) : Outcome := .next (s.load8 (.reg .c) (.mem (.atIdx .ix d)))

/-- LD D,IXH (40_load8.md rule R214). -/
def exec_ld_D_IXH (s : State) : Outcome := .next (s.load8 (.reg .d) (.loc (.half .ix .hi)))

/-- LD D,IXL (40_load8.md rule R214). -/
def exec_ld_D_IXL (s : State) : Outcome := .next (s.load8 (.reg .d) (.loc (.half .ix .lo)))

/-- LD D,(IX+d) (40_load8.md rule R203). -/
def exec_ld_D_atIXd (d : Byte) (s : State) : Outcome := .next (s.load8 (.reg .d) (.mem (.atIdx .ix d)))

/-- LD E,IXH (40_load8.md rule R214). -/
def exec_ld_E_IXH (s : State) : Outcome := .next (s.load8 (.reg .e) (.loc (.half .ix .hi)))

/-- LD E,IXL (40_load8.md rule R214). -/
def exec_ld_E_IXL (s : State) : Outcome := .next (s.load8 (.reg .e) (.loc (.half .ix .lo)))

/-- LD E,(IX+d) (40_load8.md rule R203). -/
def exec_ld_E_atIXd (d : Byte) (s : State) : Outcome := .next (s.load8 (.reg .e) (.mem (.atIdx .ix d)))

/-- LD IXH,B (40_load8.md rule R214). -/
def exec_ld_IXH_B (s : State) : Outcome := .next (s.load8 (.half .ix .hi) (.loc (.reg .b)))

/-- LD IXH,C (40_load8.md rule R214). -/
def exec_ld_IXH_C (s : State) : Outcome := .next (s.load8 (.half .ix .hi) (.loc (.reg .c)))

/-- LD IXH,D (40_load8.md rule R214). -/
def exec_ld_IXH_D (s : State) : Outcome := .next (s.load8 (.half .ix .hi) (.loc (.reg .d)))

/-- LD IXH,E (40_load8.md rule R214). -/
def exec_ld_IXH_E (s : State) : Outcome := .next (s.load8 (.half .ix .hi) (.loc (.reg .e)))

/-- LD IXH,IXH (40_load8.md rule R214). -/
def exec_ld_IXH_IXH (s : State) : Outcome := .next (s.load8 (.half .ix .hi) (.loc (.half .ix .hi)))

/-- LD IXH,IXL (40_load8.md rule R214). -/
def exec_ld_IXH_IXL (s : State) : Outcome := .next (s.load8 (.half .ix .hi) (.loc (.half .ix .lo)))

/-- LD H,(IX+d) (40_load8.md rule R203). -/
def exec_ld_H_atIXd (d : Byte) (s : State) : Outcome := .next (s.load8 (.reg .h) (.mem (.atIdx .ix d)))

/-- LD IXH,A (40_load8.md rule R214). -/
def exec_ld_IXH_A (s : State) : Outcome := .next (s.load8 (.half .ix .hi) (.loc (.reg .a)))

/-- LD IXL,B (40_load8.md rule R214). -/
def exec_ld_IXL_B (s : State) : Outcome := .next (s.load8 (.half .ix .lo) (.loc (.reg .b)))

/-- LD IXL,C (40_load8.md rule R214). -/
def exec_ld_IXL_C (s : State) : Outcome := .next (s.load8 (.half .ix .lo) (.loc (.reg .c)))

/-- LD IXL,D (40_load8.md rule R214). -/
def exec_ld_IXL_D (s : State) : Outcome := .next (s.load8 (.half .ix .lo) (.loc (.reg .d)))

/-- LD IXL,E (40_load8.md rule R214). -/
def exec_ld_IXL_E (s : State) : Outcome := .next (s.load8 (.half .ix .lo) (.loc (.reg .e)))

/-- LD IXL,IXH (40_load8.md rule R214). -/
def exec_ld_IXL_IXH (s : State) : Outcome := .next (s.load8 (.half .ix .lo) (.loc (.half .ix .hi)))

/-- LD IXL,IXL (40_load8.md rule R214). -/
def exec_ld_IXL_IXL (s : State) : Outcome := .next (s.load8 (.half .ix .lo) (.loc (.half .ix .lo)))

/-- LD L,(IX+d) (40_load8.md rule R203). -/
def exec_ld_L_atIXd (d : Byte) (s : State) : Outcome := .next (s.load8 (.reg .l) (.mem (.atIdx .ix d)))

/-- LD IXL,A (40_load8.md rule R214). -/
def exec_ld_IXL_A (s : State) : Outcome := .next (s.load8 (.half .ix .lo) (.loc (.reg .a)))

/-- LD (IX+d),B (40_load8.md rule R205). -/
def exec_ld_atIXd_B (d : Byte) (s : State) : Outcome := .next (s.store8 (.atIdx .ix d) .b)

/-- LD (IX+d),C (40_load8.md rule R205). -/
def exec_ld_atIXd_C (d : Byte) (s : State) : Outcome := .next (s.store8 (.atIdx .ix d) .c)

/-- LD (IX+d),D (40_load8.md rule R205). -/
def exec_ld_atIXd_D (d : Byte) (s : State) : Outcome := .next (s.store8 (.atIdx .ix d) .d)

/-- LD (IX+d),E (40_load8.md rule R205). -/
def exec_ld_atIXd_E (d : Byte) (s : State) : Outcome := .next (s.store8 (.atIdx .ix d) .e)

/-- LD (IX+d),H (40_load8.md rule R205). -/
def exec_ld_atIXd_H (d : Byte) (s : State) : Outcome := .next (s.store8 (.atIdx .ix d) .h)

/-- LD (IX+d),L (40_load8.md rule R205). -/
def exec_ld_atIXd_L (d : Byte) (s : State) : Outcome := .next (s.store8 (.atIdx .ix d) .l)

/-- LD (IX+d),A (40_load8.md rule R205). -/
def exec_ld_atIXd_A (d : Byte) (s : State) : Outcome := .next (s.store8 (.atIdx .ix d) .a)

/-- LD A,IXH (40_load8.md rule R214). -/
def exec_ld_A_IXH (s : State) : Outcome := .next (s.load8 (.reg .a) (.loc (.half .ix .hi)))

/-- LD A,IXL (40_load8.md rule R214). -/
def exec_ld_A_IXL (s : State) : Outcome := .next (s.load8 (.reg .a) (.loc (.half .ix .lo)))

/-- LD A,(IX+d) (40_load8.md rule R203). -/
def exec_ld_A_atIXd (d : Byte) (s : State) : Outcome := .next (s.load8 (.reg .a) (.mem (.atIdx .ix d)))

/-- LD IYH,n (40_load8.md rule R215). -/
def exec_ld_IYH_n (n : Byte) (s : State) : Outcome := .next (s.load8 (.half .iy .hi) (.imm n))

/-- LD IYL,n (40_load8.md rule R215). -/
def exec_ld_IYL_n (n : Byte) (s : State) : Outcome := .next (s.load8 (.half .iy .lo) (.imm n))

/-- LD (IY+d),n (40_load8.md rule R207). -/
def exec_ld_atIYd_n (d : Byte) (n : Byte) (s : State) : Outcome := .next (s.storeImm (.atIdx .iy d) n)

/-- LD B,IYH (40_load8.md rule R214). -/
def exec_ld_B_IYH (s : State) : Outcome := .next (s.load8 (.reg .b) (.loc (.half .iy .hi)))

/-- LD B,IYL (40_load8.md rule R214). -/
def exec_ld_B_IYL (s : State) : Outcome := .next (s.load8 (.reg .b) (.loc (.half .iy .lo)))

/-- LD B,(IY+d) (40_load8.md rule R203). -/
def exec_ld_B_atIYd (d : Byte) (s : State) : Outcome := .next (s.load8 (.reg .b) (.mem (.atIdx .iy d)))

/-- LD C,IYH (40_load8.md rule R214). -/
def exec_ld_C_IYH (s : State) : Outcome := .next (s.load8 (.reg .c) (.loc (.half .iy .hi)))

/-- LD C,IYL (40_load8.md rule R214). -/
def exec_ld_C_IYL (s : State) : Outcome := .next (s.load8 (.reg .c) (.loc (.half .iy .lo)))

/-- LD C,(IY+d) (40_load8.md rule R203). -/
def exec_ld_C_atIYd (d : Byte) (s : State) : Outcome := .next (s.load8 (.reg .c) (.mem (.atIdx .iy d)))

/-- LD D,IYH (40_load8.md rule R214). -/
def exec_ld_D_IYH (s : State) : Outcome := .next (s.load8 (.reg .d) (.loc (.half .iy .hi)))

/-- LD D,IYL (40_load8.md rule R214). -/
def exec_ld_D_IYL (s : State) : Outcome := .next (s.load8 (.reg .d) (.loc (.half .iy .lo)))

/-- LD D,(IY+d) (40_load8.md rule R203). -/
def exec_ld_D_atIYd (d : Byte) (s : State) : Outcome := .next (s.load8 (.reg .d) (.mem (.atIdx .iy d)))

/-- LD E,IYH (40_load8.md rule R214). -/
def exec_ld_E_IYH (s : State) : Outcome := .next (s.load8 (.reg .e) (.loc (.half .iy .hi)))

/-- LD E,IYL (40_load8.md rule R214). -/
def exec_ld_E_IYL (s : State) : Outcome := .next (s.load8 (.reg .e) (.loc (.half .iy .lo)))

/-- LD E,(IY+d) (40_load8.md rule R203). -/
def exec_ld_E_atIYd (d : Byte) (s : State) : Outcome := .next (s.load8 (.reg .e) (.mem (.atIdx .iy d)))

/-- LD IYH,B (40_load8.md rule R214). -/
def exec_ld_IYH_B (s : State) : Outcome := .next (s.load8 (.half .iy .hi) (.loc (.reg .b)))

/-- LD IYH,C (40_load8.md rule R214). -/
def exec_ld_IYH_C (s : State) : Outcome := .next (s.load8 (.half .iy .hi) (.loc (.reg .c)))

/-- LD IYH,D (40_load8.md rule R214). -/
def exec_ld_IYH_D (s : State) : Outcome := .next (s.load8 (.half .iy .hi) (.loc (.reg .d)))

/-- LD IYH,E (40_load8.md rule R214). -/
def exec_ld_IYH_E (s : State) : Outcome := .next (s.load8 (.half .iy .hi) (.loc (.reg .e)))

/-- LD IYH,IYH (40_load8.md rule R214). -/
def exec_ld_IYH_IYH (s : State) : Outcome := .next (s.load8 (.half .iy .hi) (.loc (.half .iy .hi)))

/-- LD IYH,IYL (40_load8.md rule R214). -/
def exec_ld_IYH_IYL (s : State) : Outcome := .next (s.load8 (.half .iy .hi) (.loc (.half .iy .lo)))

/-- LD H,(IY+d) (40_load8.md rule R203). -/
def exec_ld_H_atIYd (d : Byte) (s : State) : Outcome := .next (s.load8 (.reg .h) (.mem (.atIdx .iy d)))

/-- LD IYH,A (40_load8.md rule R214). -/
def exec_ld_IYH_A (s : State) : Outcome := .next (s.load8 (.half .iy .hi) (.loc (.reg .a)))

/-- LD IYL,B (40_load8.md rule R214). -/
def exec_ld_IYL_B (s : State) : Outcome := .next (s.load8 (.half .iy .lo) (.loc (.reg .b)))

/-- LD IYL,C (40_load8.md rule R214). -/
def exec_ld_IYL_C (s : State) : Outcome := .next (s.load8 (.half .iy .lo) (.loc (.reg .c)))

/-- LD IYL,D (40_load8.md rule R214). -/
def exec_ld_IYL_D (s : State) : Outcome := .next (s.load8 (.half .iy .lo) (.loc (.reg .d)))

/-- LD IYL,E (40_load8.md rule R214). -/
def exec_ld_IYL_E (s : State) : Outcome := .next (s.load8 (.half .iy .lo) (.loc (.reg .e)))

/-- LD IYL,IYH (40_load8.md rule R214). -/
def exec_ld_IYL_IYH (s : State) : Outcome := .next (s.load8 (.half .iy .lo) (.loc (.half .iy .hi)))

/-- LD IYL,IYL (40_load8.md rule R214). -/
def exec_ld_IYL_IYL (s : State) : Outcome := .next (s.load8 (.half .iy .lo) (.loc (.half .iy .lo)))

/-- LD L,(IY+d) (40_load8.md rule R203). -/
def exec_ld_L_atIYd (d : Byte) (s : State) : Outcome := .next (s.load8 (.reg .l) (.mem (.atIdx .iy d)))

/-- LD IYL,A (40_load8.md rule R214). -/
def exec_ld_IYL_A (s : State) : Outcome := .next (s.load8 (.half .iy .lo) (.loc (.reg .a)))

/-- LD (IY+d),B (40_load8.md rule R205). -/
def exec_ld_atIYd_B (d : Byte) (s : State) : Outcome := .next (s.store8 (.atIdx .iy d) .b)

/-- LD (IY+d),C (40_load8.md rule R205). -/
def exec_ld_atIYd_C (d : Byte) (s : State) : Outcome := .next (s.store8 (.atIdx .iy d) .c)

/-- LD (IY+d),D (40_load8.md rule R205). -/
def exec_ld_atIYd_D (d : Byte) (s : State) : Outcome := .next (s.store8 (.atIdx .iy d) .d)

/-- LD (IY+d),E (40_load8.md rule R205). -/
def exec_ld_atIYd_E (d : Byte) (s : State) : Outcome := .next (s.store8 (.atIdx .iy d) .e)

/-- LD (IY+d),H (40_load8.md rule R205). -/
def exec_ld_atIYd_H (d : Byte) (s : State) : Outcome := .next (s.store8 (.atIdx .iy d) .h)

/-- LD (IY+d),L (40_load8.md rule R205). -/
def exec_ld_atIYd_L (d : Byte) (s : State) : Outcome := .next (s.store8 (.atIdx .iy d) .l)

/-- LD (IY+d),A (40_load8.md rule R205). -/
def exec_ld_atIYd_A (d : Byte) (s : State) : Outcome := .next (s.store8 (.atIdx .iy d) .a)

/-- LD A,IYH (40_load8.md rule R214). -/
def exec_ld_A_IYH (s : State) : Outcome := .next (s.load8 (.reg .a) (.loc (.half .iy .hi)))

/-- LD A,IYL (40_load8.md rule R214). -/
def exec_ld_A_IYL (s : State) : Outcome := .next (s.load8 (.reg .a) (.loc (.half .iy .lo)))

/-- LD A,(IY+d) (40_load8.md rule R203). -/
def exec_ld_A_atIYd (d : Byte) (s : State) : Outcome := .next (s.load8 (.reg .a) (.mem (.atIdx .iy d)))

end Sys2Proof.Machine
end

