-- ==== Sys2Proof/Machine/RotateShiftBit.lean ====
section
/-! DEFINITION. Rotates, shifts, bit operations and nibble rotates (44_rotate_shift_bit.md rules R320 to
R346). -/

namespace Sys2Proof.Machine

/-- RLCA, RRCA, RLA, RRA: the operation of table `rot` on A, S, Z and PV kept
(44_rotate_shift_bit.md rules R320 to R323). -/
def State.accRotate (s : State) (op : RotOp) : State :=
  let r := rotResult op s.main.a (flagC s.main.f)
  (s.setAF (r, accFlags r s.main.f false (rotCarry op s.main.a))).tick 4

/-- A rotate or shift of a register (44_rotate_shift_bit.md rules R325 to R332). -/
def State.rotReg (s : State) (op : RotOp) (k : Reg8) : State :=
  let r := rot8 op (s.get8 k) s.main.f
  ((s.set8 k r.1).setF r.2).tick 8

/-- A rotate or shift of (HL) (44_rotate_shift_bit.md rules R325 to R333). -/
def State.rotHL (s : State) (op : RotOp) : State := (s.modifyOperand .atHL (rot8 op)).tick 15

/-- `RegCopy(x, z)` for z ≠ 6; `rot` says that x = 0 (44_rotate_shift_bit.md rule R341). -/
def regCopies (c : DdcbRegCopy) (rot : Bool) (z : Reg8) : Bool :=
  match c with
  | .doc => rot && (z == .h || z == .l)
  | .all => true
  | .none => false

/-- The second destination of an indexed form takes `v` where `RegCopy` says so
(44_rotate_shift_bit.md rule R341). -/
def State.copyIndexed (s : State) (rot : Bool) (z : Option Reg8) (v : Byte) : State :=
  match z with
  | none => s
  | some k => if regCopies s.params.ddcbCopy rot k then s.set8 k v else s

/-- An indexed rotate, shift, RES or SET: the byte at (m+d) is read and written once, and copied
(44_rotate_shift_bit.md rules R340, R341, R343, R344). -/
def State.modifyIndexed (s : State) (m : IdxReg) (d : Byte) (rot : Bool) (z : Option Reg8)
    (g : Byte → Byte → Byte × Byte) : State :=
  let r := s.updateOperand (.atIdx m d) g
  (r.2.copyIndexed rot z r.1).tick 19

/-- An indexed rotate or shift (44_rotate_shift_bit.md rule R341). -/
def State.rotIdx (s : State) (m : IdxReg) (op : RotOp) (z : Option Reg8) (d : Byte) : State :=
  s.modifyIndexed m d true z (rot8 op)

/-- BIT b,r (44_rotate_shift_bit.md rule R334). -/
def State.bitReg (s : State) (b : Fin 8) (k : Reg8) : State :=
  (s.setF (bitFlags b (s.get8 k) s.main.f (s.get8 k))).tick 8

/-- BIT b,(HL) (44_rotate_shift_bit.md rule R335). -/
def State.bitHL (s : State) (b : Fin 8) : State :=
  let v := s.readMem s.hl
  let xy :=
    match s.params.bitHlXy with
    | .operand => v.1
    | .wzHigh => hiByte s.wz
  (v.2.setF (bitFlags b v.1 s.main.f xy)).tick 12

/-- BIT b,(m+d) (44_rotate_shift_bit.md rule R342). -/
def State.bitIdx (s : State) (m : IdxReg) (b : Fin 8) (d : Byte) : State :=
  let ea := s.resolve (.atIdx m d)
  let v := ea.2.readMem ea.1
  (v.2.setF (bitFlags b v.1 s.main.f (hiByte ea.1))).tick 16

/-- RES on a byte; F is kept (44_rotate_shift_bit.md rules R336, R337, R343). -/
def resBit (b : Fin 8) (v f : Byte) : Byte × Byte := (v &&& ~~~bitMask b, f)

/-- SET on a byte; F is kept (44_rotate_shift_bit.md rules R338, R339, R344). -/
def setBit (b : Fin 8) (v f : Byte) : Byte × Byte := (v ||| bitMask b, f)

/-- RES b,r (44_rotate_shift_bit.md rule R336). -/
def State.resReg (s : State) (b : Fin 8) (k : Reg8) : State :=
  (s.set8 k (resBit b (s.get8 k) s.main.f).1).tick 8

/-- SET b,r (44_rotate_shift_bit.md rule R338). -/
def State.setReg (s : State) (b : Fin 8) (k : Reg8) : State :=
  (s.set8 k (setBit b (s.get8 k) s.main.f).1).tick 8

/-- RES b,(HL) (44_rotate_shift_bit.md rule R337). -/
def State.resHL (s : State) (b : Fin 8) : State := (s.modifyOperand .atHL (resBit b)).tick 15

/-- SET b,(HL) (44_rotate_shift_bit.md rule R339). -/
def State.setHL (s : State) (b : Fin 8) : State := (s.modifyOperand .atHL (setBit b)).tick 15

/-- Indexed RES (44_rotate_shift_bit.md rule R343). -/
def State.resIdx (s : State) (m : IdxReg) (b : Fin 8) (z : Option Reg8) (d : Byte) : State :=
  s.modifyIndexed m d false z (resBit b)

/-- Indexed SET (44_rotate_shift_bit.md rule R344). -/
def State.setIdxBit (s : State) (m : IdxReg) (b : Fin 8) (z : Option Reg8) (d : Byte) : State :=
  s.modifyIndexed m d false z (setBit b)

/-- RLD: the new memory byte and the new A (44_rotate_shift_bit.md rule R345). -/
def rldBytes (v a : Byte) : Byte × Byte :=
  ((v <<< 4) ||| (a &&& 0x0F#8), (a &&& 0xF0#8) ||| (v >>> 4))

/-- RRD: the new memory byte and the new A (44_rotate_shift_bit.md rule R346). -/
def rrdBytes (v a : Byte) : Byte × Byte :=
  ((a <<< 4) ||| (v >>> 4), (a &&& 0xF0#8) ||| (v &&& 0x0F#8))

/-- A nibble rotate between A and (HL) (44_rotate_shift_bit.md rules R345, R346). -/
def State.nibbleRotate (s : State) (g : Byte → Byte → Byte × Byte) : State :=
  let v := s.readMem s.hl
  let r := g v.1 s.main.a
  (((v.2.writeMem s.hl r.1).setAF (r.2, szpKeepC r.2 s.main.f)).setWz (s.hl + 1)).tick 18

/-! ### One meaning per instruction -/

/-- RLCA (44_rotate_shift_bit.md rule R320). -/
def exec_rlca (s : State) : Outcome := .next (s.accRotate .rlc)

/-- RRCA (44_rotate_shift_bit.md rule R321). -/
def exec_rrca (s : State) : Outcome := .next (s.accRotate .rrc)

/-- RLA (44_rotate_shift_bit.md rule R322). -/
def exec_rla (s : State) : Outcome := .next (s.accRotate .rl)

/-- RRA (44_rotate_shift_bit.md rule R323). -/
def exec_rra (s : State) : Outcome := .next (s.accRotate .rr)

/-- RLC B (44_rotate_shift_bit.md rule R325). -/
def exec_rlc_B (s : State) : Outcome := .next (s.rotReg .rlc .b)

/-- RLC C (44_rotate_shift_bit.md rule R325). -/
def exec_rlc_C (s : State) : Outcome := .next (s.rotReg .rlc .c)

/-- RLC D (44_rotate_shift_bit.md rule R325). -/
def exec_rlc_D (s : State) : Outcome := .next (s.rotReg .rlc .d)

/-- RLC E (44_rotate_shift_bit.md rule R325). -/
def exec_rlc_E (s : State) : Outcome := .next (s.rotReg .rlc .e)

/-- RLC H (44_rotate_shift_bit.md rule R325). -/
def exec_rlc_H (s : State) : Outcome := .next (s.rotReg .rlc .h)

/-- RLC L (44_rotate_shift_bit.md rule R325). -/
def exec_rlc_L (s : State) : Outcome := .next (s.rotReg .rlc .l)

/-- RLC (HL) (44_rotate_shift_bit.md rule R325). -/
def exec_rlc_atHL (s : State) : Outcome := .next (s.rotHL .rlc)

/-- RLC A (44_rotate_shift_bit.md rule R325). -/
def exec_rlc_A (s : State) : Outcome := .next (s.rotReg .rlc .a)

/-- RRC B (44_rotate_shift_bit.md rule R326). -/
def exec_rrc_B (s : State) : Outcome := .next (s.rotReg .rrc .b)

/-- RRC C (44_rotate_shift_bit.md rule R326). -/
def exec_rrc_C (s : State) : Outcome := .next (s.rotReg .rrc .c)

/-- RRC D (44_rotate_shift_bit.md rule R326). -/
def exec_rrc_D (s : State) : Outcome := .next (s.rotReg .rrc .d)

/-- RRC E (44_rotate_shift_bit.md rule R326). -/
def exec_rrc_E (s : State) : Outcome := .next (s.rotReg .rrc .e)

/-- RRC H (44_rotate_shift_bit.md rule R326). -/
def exec_rrc_H (s : State) : Outcome := .next (s.rotReg .rrc .h)

/-- RRC L (44_rotate_shift_bit.md rule R326). -/
def exec_rrc_L (s : State) : Outcome := .next (s.rotReg .rrc .l)

/-- RRC (HL) (44_rotate_shift_bit.md rule R326). -/
def exec_rrc_atHL (s : State) : Outcome := .next (s.rotHL .rrc)

/-- RRC A (44_rotate_shift_bit.md rule R326). -/
def exec_rrc_A (s : State) : Outcome := .next (s.rotReg .rrc .a)

/-- RL B (44_rotate_shift_bit.md rule R327). -/
def exec_rl_B (s : State) : Outcome := .next (s.rotReg .rl .b)

/-- RL C (44_rotate_shift_bit.md rule R327). -/
def exec_rl_C (s : State) : Outcome := .next (s.rotReg .rl .c)

/-- RL D (44_rotate_shift_bit.md rule R327). -/
def exec_rl_D (s : State) : Outcome := .next (s.rotReg .rl .d)

/-- RL E (44_rotate_shift_bit.md rule R327). -/
def exec_rl_E (s : State) : Outcome := .next (s.rotReg .rl .e)

/-- RL H (44_rotate_shift_bit.md rule R327). -/
def exec_rl_H (s : State) : Outcome := .next (s.rotReg .rl .h)

/-- RL L (44_rotate_shift_bit.md rule R327). -/
def exec_rl_L (s : State) : Outcome := .next (s.rotReg .rl .l)

/-- RL (HL) (44_rotate_shift_bit.md rule R327). -/
def exec_rl_atHL (s : State) : Outcome := .next (s.rotHL .rl)

/-- RL A (44_rotate_shift_bit.md rule R327). -/
def exec_rl_A (s : State) : Outcome := .next (s.rotReg .rl .a)

/-- RR B (44_rotate_shift_bit.md rule R328). -/
def exec_rr_B (s : State) : Outcome := .next (s.rotReg .rr .b)

/-- RR C (44_rotate_shift_bit.md rule R328). -/
def exec_rr_C (s : State) : Outcome := .next (s.rotReg .rr .c)

/-- RR D (44_rotate_shift_bit.md rule R328). -/
def exec_rr_D (s : State) : Outcome := .next (s.rotReg .rr .d)

/-- RR E (44_rotate_shift_bit.md rule R328). -/
def exec_rr_E (s : State) : Outcome := .next (s.rotReg .rr .e)

/-- RR H (44_rotate_shift_bit.md rule R328). -/
def exec_rr_H (s : State) : Outcome := .next (s.rotReg .rr .h)

/-- RR L (44_rotate_shift_bit.md rule R328). -/
def exec_rr_L (s : State) : Outcome := .next (s.rotReg .rr .l)

/-- RR (HL) (44_rotate_shift_bit.md rule R328). -/
def exec_rr_atHL (s : State) : Outcome := .next (s.rotHL .rr)

/-- RR A (44_rotate_shift_bit.md rule R328). -/
def exec_rr_A (s : State) : Outcome := .next (s.rotReg .rr .a)

/-- SLA B (44_rotate_shift_bit.md rule R329). -/
def exec_sla_B (s : State) : Outcome := .next (s.rotReg .sla .b)

/-- SLA C (44_rotate_shift_bit.md rule R329). -/
def exec_sla_C (s : State) : Outcome := .next (s.rotReg .sla .c)

/-- SLA D (44_rotate_shift_bit.md rule R329). -/
def exec_sla_D (s : State) : Outcome := .next (s.rotReg .sla .d)

/-- SLA E (44_rotate_shift_bit.md rule R329). -/
def exec_sla_E (s : State) : Outcome := .next (s.rotReg .sla .e)

/-- SLA H (44_rotate_shift_bit.md rule R329). -/
def exec_sla_H (s : State) : Outcome := .next (s.rotReg .sla .h)

/-- SLA L (44_rotate_shift_bit.md rule R329). -/
def exec_sla_L (s : State) : Outcome := .next (s.rotReg .sla .l)

/-- SLA (HL) (44_rotate_shift_bit.md rule R329). -/
def exec_sla_atHL (s : State) : Outcome := .next (s.rotHL .sla)

/-- SLA A (44_rotate_shift_bit.md rule R329). -/
def exec_sla_A (s : State) : Outcome := .next (s.rotReg .sla .a)

/-- SRA B (44_rotate_shift_bit.md rule R330). -/
def exec_sra_B (s : State) : Outcome := .next (s.rotReg .sra .b)

/-- SRA C (44_rotate_shift_bit.md rule R330). -/
def exec_sra_C (s : State) : Outcome := .next (s.rotReg .sra .c)

/-- SRA D (44_rotate_shift_bit.md rule R330). -/
def exec_sra_D (s : State) : Outcome := .next (s.rotReg .sra .d)

/-- SRA E (44_rotate_shift_bit.md rule R330). -/
def exec_sra_E (s : State) : Outcome := .next (s.rotReg .sra .e)

/-- SRA H (44_rotate_shift_bit.md rule R330). -/
def exec_sra_H (s : State) : Outcome := .next (s.rotReg .sra .h)

/-- SRA L (44_rotate_shift_bit.md rule R330). -/
def exec_sra_L (s : State) : Outcome := .next (s.rotReg .sra .l)

/-- SRA (HL) (44_rotate_shift_bit.md rule R330). -/
def exec_sra_atHL (s : State) : Outcome := .next (s.rotHL .sra)

/-- SRA A (44_rotate_shift_bit.md rule R330). -/
def exec_sra_A (s : State) : Outcome := .next (s.rotReg .sra .a)

/-- SLL B (44_rotate_shift_bit.md rule R331). -/
def exec_sll_B (s : State) : Outcome := .next (s.rotReg .sll .b)

/-- SLL C (44_rotate_shift_bit.md rule R331). -/
def exec_sll_C (s : State) : Outcome := .next (s.rotReg .sll .c)

/-- SLL D (44_rotate_shift_bit.md rule R331). -/
def exec_sll_D (s : State) : Outcome := .next (s.rotReg .sll .d)

/-- SLL E (44_rotate_shift_bit.md rule R331). -/
def exec_sll_E (s : State) : Outcome := .next (s.rotReg .sll .e)

/-- SLL H (44_rotate_shift_bit.md rule R331). -/
def exec_sll_H (s : State) : Outcome := .next (s.rotReg .sll .h)

/-- SLL L (44_rotate_shift_bit.md rule R331). -/
def exec_sll_L (s : State) : Outcome := .next (s.rotReg .sll .l)

/-- SLL (HL) (44_rotate_shift_bit.md rule R331). -/
def exec_sll_atHL (s : State) : Outcome := .next (s.rotHL .sll)

/-- SLL A (44_rotate_shift_bit.md rule R331). -/
def exec_sll_A (s : State) : Outcome := .next (s.rotReg .sll .a)

/-- SRL B (44_rotate_shift_bit.md rule R332). -/
def exec_srl_B (s : State) : Outcome := .next (s.rotReg .srl .b)

/-- SRL C (44_rotate_shift_bit.md rule R332). -/
def exec_srl_C (s : State) : Outcome := .next (s.rotReg .srl .c)

/-- SRL D (44_rotate_shift_bit.md rule R332). -/
def exec_srl_D (s : State) : Outcome := .next (s.rotReg .srl .d)

/-- SRL E (44_rotate_shift_bit.md rule R332). -/
def exec_srl_E (s : State) : Outcome := .next (s.rotReg .srl .e)

/-- SRL H (44_rotate_shift_bit.md rule R332). -/
def exec_srl_H (s : State) : Outcome := .next (s.rotReg .srl .h)

/-- SRL L (44_rotate_shift_bit.md rule R332). -/
def exec_srl_L (s : State) : Outcome := .next (s.rotReg .srl .l)

/-- SRL (HL) (44_rotate_shift_bit.md rule R332). -/
def exec_srl_atHL (s : State) : Outcome := .next (s.rotHL .srl)

/-- SRL A (44_rotate_shift_bit.md rule R332). -/
def exec_srl_A (s : State) : Outcome := .next (s.rotReg .srl .a)

/-- BIT 0,B (44_rotate_shift_bit.md rule R334). -/
def exec_bit_0_B (s : State) : Outcome := .next (s.bitReg 0 .b)

/-- BIT 0,C (44_rotate_shift_bit.md rule R334). -/
def exec_bit_0_C (s : State) : Outcome := .next (s.bitReg 0 .c)

/-- BIT 0,D (44_rotate_shift_bit.md rule R334). -/
def exec_bit_0_D (s : State) : Outcome := .next (s.bitReg 0 .d)

/-- BIT 0,E (44_rotate_shift_bit.md rule R334). -/
def exec_bit_0_E (s : State) : Outcome := .next (s.bitReg 0 .e)

/-- BIT 0,H (44_rotate_shift_bit.md rule R334). -/
def exec_bit_0_H (s : State) : Outcome := .next (s.bitReg 0 .h)

/-- BIT 0,L (44_rotate_shift_bit.md rule R334). -/
def exec_bit_0_L (s : State) : Outcome := .next (s.bitReg 0 .l)

/-- BIT 0,(HL) (44_rotate_shift_bit.md rule R335). -/
def exec_bit_0_atHL (s : State) : Outcome := .next (s.bitHL 0)

/-- BIT 0,A (44_rotate_shift_bit.md rule R334). -/
def exec_bit_0_A (s : State) : Outcome := .next (s.bitReg 0 .a)

/-- BIT 1,B (44_rotate_shift_bit.md rule R334). -/
def exec_bit_1_B (s : State) : Outcome := .next (s.bitReg 1 .b)

/-- BIT 1,C (44_rotate_shift_bit.md rule R334). -/
def exec_bit_1_C (s : State) : Outcome := .next (s.bitReg 1 .c)

/-- BIT 1,D (44_rotate_shift_bit.md rule R334). -/
def exec_bit_1_D (s : State) : Outcome := .next (s.bitReg 1 .d)

/-- BIT 1,E (44_rotate_shift_bit.md rule R334). -/
def exec_bit_1_E (s : State) : Outcome := .next (s.bitReg 1 .e)

/-- BIT 1,H (44_rotate_shift_bit.md rule R334). -/
def exec_bit_1_H (s : State) : Outcome := .next (s.bitReg 1 .h)

/-- BIT 1,L (44_rotate_shift_bit.md rule R334). -/
def exec_bit_1_L (s : State) : Outcome := .next (s.bitReg 1 .l)

/-- BIT 1,(HL) (44_rotate_shift_bit.md rule R335). -/
def exec_bit_1_atHL (s : State) : Outcome := .next (s.bitHL 1)

/-- BIT 1,A (44_rotate_shift_bit.md rule R334). -/
def exec_bit_1_A (s : State) : Outcome := .next (s.bitReg 1 .a)

/-- BIT 2,B (44_rotate_shift_bit.md rule R334). -/
def exec_bit_2_B (s : State) : Outcome := .next (s.bitReg 2 .b)

/-- BIT 2,C (44_rotate_shift_bit.md rule R334). -/
def exec_bit_2_C (s : State) : Outcome := .next (s.bitReg 2 .c)

/-- BIT 2,D (44_rotate_shift_bit.md rule R334). -/
def exec_bit_2_D (s : State) : Outcome := .next (s.bitReg 2 .d)

/-- BIT 2,E (44_rotate_shift_bit.md rule R334). -/
def exec_bit_2_E (s : State) : Outcome := .next (s.bitReg 2 .e)

/-- BIT 2,H (44_rotate_shift_bit.md rule R334). -/
def exec_bit_2_H (s : State) : Outcome := .next (s.bitReg 2 .h)

/-- BIT 2,L (44_rotate_shift_bit.md rule R334). -/
def exec_bit_2_L (s : State) : Outcome := .next (s.bitReg 2 .l)

/-- BIT 2,(HL) (44_rotate_shift_bit.md rule R335). -/
def exec_bit_2_atHL (s : State) : Outcome := .next (s.bitHL 2)

/-- BIT 2,A (44_rotate_shift_bit.md rule R334). -/
def exec_bit_2_A (s : State) : Outcome := .next (s.bitReg 2 .a)

/-- BIT 3,B (44_rotate_shift_bit.md rule R334). -/
def exec_bit_3_B (s : State) : Outcome := .next (s.bitReg 3 .b)

/-- BIT 3,C (44_rotate_shift_bit.md rule R334). -/
def exec_bit_3_C (s : State) : Outcome := .next (s.bitReg 3 .c)

/-- BIT 3,D (44_rotate_shift_bit.md rule R334). -/
def exec_bit_3_D (s : State) : Outcome := .next (s.bitReg 3 .d)

/-- BIT 3,E (44_rotate_shift_bit.md rule R334). -/
def exec_bit_3_E (s : State) : Outcome := .next (s.bitReg 3 .e)

/-- BIT 3,H (44_rotate_shift_bit.md rule R334). -/
def exec_bit_3_H (s : State) : Outcome := .next (s.bitReg 3 .h)

/-- BIT 3,L (44_rotate_shift_bit.md rule R334). -/
def exec_bit_3_L (s : State) : Outcome := .next (s.bitReg 3 .l)

/-- BIT 3,(HL) (44_rotate_shift_bit.md rule R335). -/
def exec_bit_3_atHL (s : State) : Outcome := .next (s.bitHL 3)

/-- BIT 3,A (44_rotate_shift_bit.md rule R334). -/
def exec_bit_3_A (s : State) : Outcome := .next (s.bitReg 3 .a)

/-- BIT 4,B (44_rotate_shift_bit.md rule R334). -/
def exec_bit_4_B (s : State) : Outcome := .next (s.bitReg 4 .b)

/-- BIT 4,C (44_rotate_shift_bit.md rule R334). -/
def exec_bit_4_C (s : State) : Outcome := .next (s.bitReg 4 .c)

/-- BIT 4,D (44_rotate_shift_bit.md rule R334). -/
def exec_bit_4_D (s : State) : Outcome := .next (s.bitReg 4 .d)

/-- BIT 4,E (44_rotate_shift_bit.md rule R334). -/
def exec_bit_4_E (s : State) : Outcome := .next (s.bitReg 4 .e)

/-- BIT 4,H (44_rotate_shift_bit.md rule R334). -/
def exec_bit_4_H (s : State) : Outcome := .next (s.bitReg 4 .h)

/-- BIT 4,L (44_rotate_shift_bit.md rule R334). -/
def exec_bit_4_L (s : State) : Outcome := .next (s.bitReg 4 .l)

/-- BIT 4,(HL) (44_rotate_shift_bit.md rule R335). -/
def exec_bit_4_atHL (s : State) : Outcome := .next (s.bitHL 4)

/-- BIT 4,A (44_rotate_shift_bit.md rule R334). -/
def exec_bit_4_A (s : State) : Outcome := .next (s.bitReg 4 .a)

/-- BIT 5,B (44_rotate_shift_bit.md rule R334). -/
def exec_bit_5_B (s : State) : Outcome := .next (s.bitReg 5 .b)

/-- BIT 5,C (44_rotate_shift_bit.md rule R334). -/
def exec_bit_5_C (s : State) : Outcome := .next (s.bitReg 5 .c)

/-- BIT 5,D (44_rotate_shift_bit.md rule R334). -/
def exec_bit_5_D (s : State) : Outcome := .next (s.bitReg 5 .d)

/-- BIT 5,E (44_rotate_shift_bit.md rule R334). -/
def exec_bit_5_E (s : State) : Outcome := .next (s.bitReg 5 .e)

/-- BIT 5,H (44_rotate_shift_bit.md rule R334). -/
def exec_bit_5_H (s : State) : Outcome := .next (s.bitReg 5 .h)

/-- BIT 5,L (44_rotate_shift_bit.md rule R334). -/
def exec_bit_5_L (s : State) : Outcome := .next (s.bitReg 5 .l)

/-- BIT 5,(HL) (44_rotate_shift_bit.md rule R335). -/
def exec_bit_5_atHL (s : State) : Outcome := .next (s.bitHL 5)

/-- BIT 5,A (44_rotate_shift_bit.md rule R334). -/
def exec_bit_5_A (s : State) : Outcome := .next (s.bitReg 5 .a)

/-- BIT 6,B (44_rotate_shift_bit.md rule R334). -/
def exec_bit_6_B (s : State) : Outcome := .next (s.bitReg 6 .b)

/-- BIT 6,C (44_rotate_shift_bit.md rule R334). -/
def exec_bit_6_C (s : State) : Outcome := .next (s.bitReg 6 .c)

/-- BIT 6,D (44_rotate_shift_bit.md rule R334). -/
def exec_bit_6_D (s : State) : Outcome := .next (s.bitReg 6 .d)

/-- BIT 6,E (44_rotate_shift_bit.md rule R334). -/
def exec_bit_6_E (s : State) : Outcome := .next (s.bitReg 6 .e)

/-- BIT 6,H (44_rotate_shift_bit.md rule R334). -/
def exec_bit_6_H (s : State) : Outcome := .next (s.bitReg 6 .h)

/-- BIT 6,L (44_rotate_shift_bit.md rule R334). -/
def exec_bit_6_L (s : State) : Outcome := .next (s.bitReg 6 .l)

/-- BIT 6,(HL) (44_rotate_shift_bit.md rule R335). -/
def exec_bit_6_atHL (s : State) : Outcome := .next (s.bitHL 6)

/-- BIT 6,A (44_rotate_shift_bit.md rule R334). -/
def exec_bit_6_A (s : State) : Outcome := .next (s.bitReg 6 .a)

/-- BIT 7,B (44_rotate_shift_bit.md rule R334). -/
def exec_bit_7_B (s : State) : Outcome := .next (s.bitReg 7 .b)

/-- BIT 7,C (44_rotate_shift_bit.md rule R334). -/
def exec_bit_7_C (s : State) : Outcome := .next (s.bitReg 7 .c)

/-- BIT 7,D (44_rotate_shift_bit.md rule R334). -/
def exec_bit_7_D (s : State) : Outcome := .next (s.bitReg 7 .d)

/-- BIT 7,E (44_rotate_shift_bit.md rule R334). -/
def exec_bit_7_E (s : State) : Outcome := .next (s.bitReg 7 .e)

/-- BIT 7,H (44_rotate_shift_bit.md rule R334). -/
def exec_bit_7_H (s : State) : Outcome := .next (s.bitReg 7 .h)

/-- BIT 7,L (44_rotate_shift_bit.md rule R334). -/
def exec_bit_7_L (s : State) : Outcome := .next (s.bitReg 7 .l)

/-- BIT 7,(HL) (44_rotate_shift_bit.md rule R335). -/
def exec_bit_7_atHL (s : State) : Outcome := .next (s.bitHL 7)

/-- BIT 7,A (44_rotate_shift_bit.md rule R334). -/
def exec_bit_7_A (s : State) : Outcome := .next (s.bitReg 7 .a)

/-- RES 0,B (44_rotate_shift_bit.md rule R336). -/
def exec_res_0_B (s : State) : Outcome := .next (s.resReg 0 .b)

/-- RES 0,C (44_rotate_shift_bit.md rule R336). -/
def exec_res_0_C (s : State) : Outcome := .next (s.resReg 0 .c)

/-- RES 0,D (44_rotate_shift_bit.md rule R336). -/
def exec_res_0_D (s : State) : Outcome := .next (s.resReg 0 .d)

/-- RES 0,E (44_rotate_shift_bit.md rule R336). -/
def exec_res_0_E (s : State) : Outcome := .next (s.resReg 0 .e)

/-- RES 0,H (44_rotate_shift_bit.md rule R336). -/
def exec_res_0_H (s : State) : Outcome := .next (s.resReg 0 .h)

/-- RES 0,L (44_rotate_shift_bit.md rule R336). -/
def exec_res_0_L (s : State) : Outcome := .next (s.resReg 0 .l)

/-- RES 0,(HL) (44_rotate_shift_bit.md rule R337). -/
def exec_res_0_atHL (s : State) : Outcome := .next (s.resHL 0)

/-- RES 0,A (44_rotate_shift_bit.md rule R336). -/
def exec_res_0_A (s : State) : Outcome := .next (s.resReg 0 .a)

/-- RES 1,B (44_rotate_shift_bit.md rule R336). -/
def exec_res_1_B (s : State) : Outcome := .next (s.resReg 1 .b)

/-- RES 1,C (44_rotate_shift_bit.md rule R336). -/
def exec_res_1_C (s : State) : Outcome := .next (s.resReg 1 .c)

/-- RES 1,D (44_rotate_shift_bit.md rule R336). -/
def exec_res_1_D (s : State) : Outcome := .next (s.resReg 1 .d)

/-- RES 1,E (44_rotate_shift_bit.md rule R336). -/
def exec_res_1_E (s : State) : Outcome := .next (s.resReg 1 .e)

/-- RES 1,H (44_rotate_shift_bit.md rule R336). -/
def exec_res_1_H (s : State) : Outcome := .next (s.resReg 1 .h)

/-- RES 1,L (44_rotate_shift_bit.md rule R336). -/
def exec_res_1_L (s : State) : Outcome := .next (s.resReg 1 .l)

/-- RES 1,(HL) (44_rotate_shift_bit.md rule R337). -/
def exec_res_1_atHL (s : State) : Outcome := .next (s.resHL 1)

/-- RES 1,A (44_rotate_shift_bit.md rule R336). -/
def exec_res_1_A (s : State) : Outcome := .next (s.resReg 1 .a)

/-- RES 2,B (44_rotate_shift_bit.md rule R336). -/
def exec_res_2_B (s : State) : Outcome := .next (s.resReg 2 .b)

/-- RES 2,C (44_rotate_shift_bit.md rule R336). -/
def exec_res_2_C (s : State) : Outcome := .next (s.resReg 2 .c)

/-- RES 2,D (44_rotate_shift_bit.md rule R336). -/
def exec_res_2_D (s : State) : Outcome := .next (s.resReg 2 .d)

/-- RES 2,E (44_rotate_shift_bit.md rule R336). -/
def exec_res_2_E (s : State) : Outcome := .next (s.resReg 2 .e)

/-- RES 2,H (44_rotate_shift_bit.md rule R336). -/
def exec_res_2_H (s : State) : Outcome := .next (s.resReg 2 .h)

/-- RES 2,L (44_rotate_shift_bit.md rule R336). -/
def exec_res_2_L (s : State) : Outcome := .next (s.resReg 2 .l)

/-- RES 2,(HL) (44_rotate_shift_bit.md rule R337). -/
def exec_res_2_atHL (s : State) : Outcome := .next (s.resHL 2)

/-- RES 2,A (44_rotate_shift_bit.md rule R336). -/
def exec_res_2_A (s : State) : Outcome := .next (s.resReg 2 .a)

/-- RES 3,B (44_rotate_shift_bit.md rule R336). -/
def exec_res_3_B (s : State) : Outcome := .next (s.resReg 3 .b)

/-- RES 3,C (44_rotate_shift_bit.md rule R336). -/
def exec_res_3_C (s : State) : Outcome := .next (s.resReg 3 .c)

/-- RES 3,D (44_rotate_shift_bit.md rule R336). -/
def exec_res_3_D (s : State) : Outcome := .next (s.resReg 3 .d)

/-- RES 3,E (44_rotate_shift_bit.md rule R336). -/
def exec_res_3_E (s : State) : Outcome := .next (s.resReg 3 .e)

/-- RES 3,H (44_rotate_shift_bit.md rule R336). -/
def exec_res_3_H (s : State) : Outcome := .next (s.resReg 3 .h)

/-- RES 3,L (44_rotate_shift_bit.md rule R336). -/
def exec_res_3_L (s : State) : Outcome := .next (s.resReg 3 .l)

/-- RES 3,(HL) (44_rotate_shift_bit.md rule R337). -/
def exec_res_3_atHL (s : State) : Outcome := .next (s.resHL 3)

/-- RES 3,A (44_rotate_shift_bit.md rule R336). -/
def exec_res_3_A (s : State) : Outcome := .next (s.resReg 3 .a)

/-- RES 4,B (44_rotate_shift_bit.md rule R336). -/
def exec_res_4_B (s : State) : Outcome := .next (s.resReg 4 .b)

/-- RES 4,C (44_rotate_shift_bit.md rule R336). -/
def exec_res_4_C (s : State) : Outcome := .next (s.resReg 4 .c)

/-- RES 4,D (44_rotate_shift_bit.md rule R336). -/
def exec_res_4_D (s : State) : Outcome := .next (s.resReg 4 .d)

/-- RES 4,E (44_rotate_shift_bit.md rule R336). -/
def exec_res_4_E (s : State) : Outcome := .next (s.resReg 4 .e)

/-- RES 4,H (44_rotate_shift_bit.md rule R336). -/
def exec_res_4_H (s : State) : Outcome := .next (s.resReg 4 .h)

/-- RES 4,L (44_rotate_shift_bit.md rule R336). -/
def exec_res_4_L (s : State) : Outcome := .next (s.resReg 4 .l)

/-- RES 4,(HL) (44_rotate_shift_bit.md rule R337). -/
def exec_res_4_atHL (s : State) : Outcome := .next (s.resHL 4)

/-- RES 4,A (44_rotate_shift_bit.md rule R336). -/
def exec_res_4_A (s : State) : Outcome := .next (s.resReg 4 .a)

/-- RES 5,B (44_rotate_shift_bit.md rule R336). -/
def exec_res_5_B (s : State) : Outcome := .next (s.resReg 5 .b)

/-- RES 5,C (44_rotate_shift_bit.md rule R336). -/
def exec_res_5_C (s : State) : Outcome := .next (s.resReg 5 .c)

/-- RES 5,D (44_rotate_shift_bit.md rule R336). -/
def exec_res_5_D (s : State) : Outcome := .next (s.resReg 5 .d)

/-- RES 5,E (44_rotate_shift_bit.md rule R336). -/
def exec_res_5_E (s : State) : Outcome := .next (s.resReg 5 .e)

/-- RES 5,H (44_rotate_shift_bit.md rule R336). -/
def exec_res_5_H (s : State) : Outcome := .next (s.resReg 5 .h)

/-- RES 5,L (44_rotate_shift_bit.md rule R336). -/
def exec_res_5_L (s : State) : Outcome := .next (s.resReg 5 .l)

/-- RES 5,(HL) (44_rotate_shift_bit.md rule R337). -/
def exec_res_5_atHL (s : State) : Outcome := .next (s.resHL 5)

/-- RES 5,A (44_rotate_shift_bit.md rule R336). -/
def exec_res_5_A (s : State) : Outcome := .next (s.resReg 5 .a)

/-- RES 6,B (44_rotate_shift_bit.md rule R336). -/
def exec_res_6_B (s : State) : Outcome := .next (s.resReg 6 .b)

/-- RES 6,C (44_rotate_shift_bit.md rule R336). -/
def exec_res_6_C (s : State) : Outcome := .next (s.resReg 6 .c)

/-- RES 6,D (44_rotate_shift_bit.md rule R336). -/
def exec_res_6_D (s : State) : Outcome := .next (s.resReg 6 .d)

/-- RES 6,E (44_rotate_shift_bit.md rule R336). -/
def exec_res_6_E (s : State) : Outcome := .next (s.resReg 6 .e)

/-- RES 6,H (44_rotate_shift_bit.md rule R336). -/
def exec_res_6_H (s : State) : Outcome := .next (s.resReg 6 .h)

/-- RES 6,L (44_rotate_shift_bit.md rule R336). -/
def exec_res_6_L (s : State) : Outcome := .next (s.resReg 6 .l)

/-- RES 6,(HL) (44_rotate_shift_bit.md rule R337). -/
def exec_res_6_atHL (s : State) : Outcome := .next (s.resHL 6)

/-- RES 6,A (44_rotate_shift_bit.md rule R336). -/
def exec_res_6_A (s : State) : Outcome := .next (s.resReg 6 .a)

/-- RES 7,B (44_rotate_shift_bit.md rule R336). -/
def exec_res_7_B (s : State) : Outcome := .next (s.resReg 7 .b)

/-- RES 7,C (44_rotate_shift_bit.md rule R336). -/
def exec_res_7_C (s : State) : Outcome := .next (s.resReg 7 .c)

/-- RES 7,D (44_rotate_shift_bit.md rule R336). -/
def exec_res_7_D (s : State) : Outcome := .next (s.resReg 7 .d)

/-- RES 7,E (44_rotate_shift_bit.md rule R336). -/
def exec_res_7_E (s : State) : Outcome := .next (s.resReg 7 .e)

/-- RES 7,H (44_rotate_shift_bit.md rule R336). -/
def exec_res_7_H (s : State) : Outcome := .next (s.resReg 7 .h)

/-- RES 7,L (44_rotate_shift_bit.md rule R336). -/
def exec_res_7_L (s : State) : Outcome := .next (s.resReg 7 .l)

/-- RES 7,(HL) (44_rotate_shift_bit.md rule R337). -/
def exec_res_7_atHL (s : State) : Outcome := .next (s.resHL 7)

/-- RES 7,A (44_rotate_shift_bit.md rule R336). -/
def exec_res_7_A (s : State) : Outcome := .next (s.resReg 7 .a)

/-- SET 0,B (44_rotate_shift_bit.md rule R338). -/
def exec_set_0_B (s : State) : Outcome := .next (s.setReg 0 .b)

/-- SET 0,C (44_rotate_shift_bit.md rule R338). -/
def exec_set_0_C (s : State) : Outcome := .next (s.setReg 0 .c)

/-- SET 0,D (44_rotate_shift_bit.md rule R338). -/
def exec_set_0_D (s : State) : Outcome := .next (s.setReg 0 .d)

/-- SET 0,E (44_rotate_shift_bit.md rule R338). -/
def exec_set_0_E (s : State) : Outcome := .next (s.setReg 0 .e)

/-- SET 0,H (44_rotate_shift_bit.md rule R338). -/
def exec_set_0_H (s : State) : Outcome := .next (s.setReg 0 .h)

/-- SET 0,L (44_rotate_shift_bit.md rule R338). -/
def exec_set_0_L (s : State) : Outcome := .next (s.setReg 0 .l)

/-- SET 0,(HL) (44_rotate_shift_bit.md rule R339). -/
def exec_set_0_atHL (s : State) : Outcome := .next (s.setHL 0)

/-- SET 0,A (44_rotate_shift_bit.md rule R338). -/
def exec_set_0_A (s : State) : Outcome := .next (s.setReg 0 .a)

/-- SET 1,B (44_rotate_shift_bit.md rule R338). -/
def exec_set_1_B (s : State) : Outcome := .next (s.setReg 1 .b)

/-- SET 1,C (44_rotate_shift_bit.md rule R338). -/
def exec_set_1_C (s : State) : Outcome := .next (s.setReg 1 .c)

/-- SET 1,D (44_rotate_shift_bit.md rule R338). -/
def exec_set_1_D (s : State) : Outcome := .next (s.setReg 1 .d)

/-- SET 1,E (44_rotate_shift_bit.md rule R338). -/
def exec_set_1_E (s : State) : Outcome := .next (s.setReg 1 .e)

/-- SET 1,H (44_rotate_shift_bit.md rule R338). -/
def exec_set_1_H (s : State) : Outcome := .next (s.setReg 1 .h)

/-- SET 1,L (44_rotate_shift_bit.md rule R338). -/
def exec_set_1_L (s : State) : Outcome := .next (s.setReg 1 .l)

/-- SET 1,(HL) (44_rotate_shift_bit.md rule R339). -/
def exec_set_1_atHL (s : State) : Outcome := .next (s.setHL 1)

/-- SET 1,A (44_rotate_shift_bit.md rule R338). -/
def exec_set_1_A (s : State) : Outcome := .next (s.setReg 1 .a)

/-- SET 2,B (44_rotate_shift_bit.md rule R338). -/
def exec_set_2_B (s : State) : Outcome := .next (s.setReg 2 .b)

/-- SET 2,C (44_rotate_shift_bit.md rule R338). -/
def exec_set_2_C (s : State) : Outcome := .next (s.setReg 2 .c)

/-- SET 2,D (44_rotate_shift_bit.md rule R338). -/
def exec_set_2_D (s : State) : Outcome := .next (s.setReg 2 .d)

/-- SET 2,E (44_rotate_shift_bit.md rule R338). -/
def exec_set_2_E (s : State) : Outcome := .next (s.setReg 2 .e)

/-- SET 2,H (44_rotate_shift_bit.md rule R338). -/
def exec_set_2_H (s : State) : Outcome := .next (s.setReg 2 .h)

/-- SET 2,L (44_rotate_shift_bit.md rule R338). -/
def exec_set_2_L (s : State) : Outcome := .next (s.setReg 2 .l)

/-- SET 2,(HL) (44_rotate_shift_bit.md rule R339). -/
def exec_set_2_atHL (s : State) : Outcome := .next (s.setHL 2)

/-- SET 2,A (44_rotate_shift_bit.md rule R338). -/
def exec_set_2_A (s : State) : Outcome := .next (s.setReg 2 .a)

/-- SET 3,B (44_rotate_shift_bit.md rule R338). -/
def exec_set_3_B (s : State) : Outcome := .next (s.setReg 3 .b)

/-- SET 3,C (44_rotate_shift_bit.md rule R338). -/
def exec_set_3_C (s : State) : Outcome := .next (s.setReg 3 .c)

/-- SET 3,D (44_rotate_shift_bit.md rule R338). -/
def exec_set_3_D (s : State) : Outcome := .next (s.setReg 3 .d)

/-- SET 3,E (44_rotate_shift_bit.md rule R338). -/
def exec_set_3_E (s : State) : Outcome := .next (s.setReg 3 .e)

/-- SET 3,H (44_rotate_shift_bit.md rule R338). -/
def exec_set_3_H (s : State) : Outcome := .next (s.setReg 3 .h)

/-- SET 3,L (44_rotate_shift_bit.md rule R338). -/
def exec_set_3_L (s : State) : Outcome := .next (s.setReg 3 .l)

/-- SET 3,(HL) (44_rotate_shift_bit.md rule R339). -/
def exec_set_3_atHL (s : State) : Outcome := .next (s.setHL 3)

/-- SET 3,A (44_rotate_shift_bit.md rule R338). -/
def exec_set_3_A (s : State) : Outcome := .next (s.setReg 3 .a)

/-- SET 4,B (44_rotate_shift_bit.md rule R338). -/
def exec_set_4_B (s : State) : Outcome := .next (s.setReg 4 .b)

/-- SET 4,C (44_rotate_shift_bit.md rule R338). -/
def exec_set_4_C (s : State) : Outcome := .next (s.setReg 4 .c)

/-- SET 4,D (44_rotate_shift_bit.md rule R338). -/
def exec_set_4_D (s : State) : Outcome := .next (s.setReg 4 .d)

/-- SET 4,E (44_rotate_shift_bit.md rule R338). -/
def exec_set_4_E (s : State) : Outcome := .next (s.setReg 4 .e)

/-- SET 4,H (44_rotate_shift_bit.md rule R338). -/
def exec_set_4_H (s : State) : Outcome := .next (s.setReg 4 .h)

/-- SET 4,L (44_rotate_shift_bit.md rule R338). -/
def exec_set_4_L (s : State) : Outcome := .next (s.setReg 4 .l)

/-- SET 4,(HL) (44_rotate_shift_bit.md rule R339). -/
def exec_set_4_atHL (s : State) : Outcome := .next (s.setHL 4)

/-- SET 4,A (44_rotate_shift_bit.md rule R338). -/
def exec_set_4_A (s : State) : Outcome := .next (s.setReg 4 .a)

/-- SET 5,B (44_rotate_shift_bit.md rule R338). -/
def exec_set_5_B (s : State) : Outcome := .next (s.setReg 5 .b)

/-- SET 5,C (44_rotate_shift_bit.md rule R338). -/
def exec_set_5_C (s : State) : Outcome := .next (s.setReg 5 .c)

/-- SET 5,D (44_rotate_shift_bit.md rule R338). -/
def exec_set_5_D (s : State) : Outcome := .next (s.setReg 5 .d)

/-- SET 5,E (44_rotate_shift_bit.md rule R338). -/
def exec_set_5_E (s : State) : Outcome := .next (s.setReg 5 .e)

/-- SET 5,H (44_rotate_shift_bit.md rule R338). -/
def exec_set_5_H (s : State) : Outcome := .next (s.setReg 5 .h)

/-- SET 5,L (44_rotate_shift_bit.md rule R338). -/
def exec_set_5_L (s : State) : Outcome := .next (s.setReg 5 .l)

/-- SET 5,(HL) (44_rotate_shift_bit.md rule R339). -/
def exec_set_5_atHL (s : State) : Outcome := .next (s.setHL 5)

/-- SET 5,A (44_rotate_shift_bit.md rule R338). -/
def exec_set_5_A (s : State) : Outcome := .next (s.setReg 5 .a)

/-- SET 6,B (44_rotate_shift_bit.md rule R338). -/
def exec_set_6_B (s : State) : Outcome := .next (s.setReg 6 .b)

/-- SET 6,C (44_rotate_shift_bit.md rule R338). -/
def exec_set_6_C (s : State) : Outcome := .next (s.setReg 6 .c)

/-- SET 6,D (44_rotate_shift_bit.md rule R338). -/
def exec_set_6_D (s : State) : Outcome := .next (s.setReg 6 .d)

/-- SET 6,E (44_rotate_shift_bit.md rule R338). -/
def exec_set_6_E (s : State) : Outcome := .next (s.setReg 6 .e)

/-- SET 6,H (44_rotate_shift_bit.md rule R338). -/
def exec_set_6_H (s : State) : Outcome := .next (s.setReg 6 .h)

/-- SET 6,L (44_rotate_shift_bit.md rule R338). -/
def exec_set_6_L (s : State) : Outcome := .next (s.setReg 6 .l)

/-- SET 6,(HL) (44_rotate_shift_bit.md rule R339). -/
def exec_set_6_atHL (s : State) : Outcome := .next (s.setHL 6)

/-- SET 6,A (44_rotate_shift_bit.md rule R338). -/
def exec_set_6_A (s : State) : Outcome := .next (s.setReg 6 .a)

/-- SET 7,B (44_rotate_shift_bit.md rule R338). -/
def exec_set_7_B (s : State) : Outcome := .next (s.setReg 7 .b)

/-- SET 7,C (44_rotate_shift_bit.md rule R338). -/
def exec_set_7_C (s : State) : Outcome := .next (s.setReg 7 .c)

/-- SET 7,D (44_rotate_shift_bit.md rule R338). -/
def exec_set_7_D (s : State) : Outcome := .next (s.setReg 7 .d)

/-- SET 7,E (44_rotate_shift_bit.md rule R338). -/
def exec_set_7_E (s : State) : Outcome := .next (s.setReg 7 .e)

/-- SET 7,H (44_rotate_shift_bit.md rule R338). -/
def exec_set_7_H (s : State) : Outcome := .next (s.setReg 7 .h)

/-- SET 7,L (44_rotate_shift_bit.md rule R338). -/
def exec_set_7_L (s : State) : Outcome := .next (s.setReg 7 .l)

/-- SET 7,(HL) (44_rotate_shift_bit.md rule R339). -/
def exec_set_7_atHL (s : State) : Outcome := .next (s.setHL 7)

/-- SET 7,A (44_rotate_shift_bit.md rule R338). -/
def exec_set_7_A (s : State) : Outcome := .next (s.setReg 7 .a)

/-- RRD (44_rotate_shift_bit.md rule R346). -/
def exec_rrd (s : State) : Outcome := .next (s.nibbleRotate rrdBytes)

/-- RLD (44_rotate_shift_bit.md rule R345). -/
def exec_rld (s : State) : Outcome := .next (s.nibbleRotate rldBytes)

/-- RLC (IX+d),B (44_rotate_shift_bit.md rule R341). -/
def exec_rlc_atIXd_B (d : Byte) (s : State) : Outcome := .next (s.rotIdx .ix .rlc (some .b) d)

/-- RLC (IX+d),C (44_rotate_shift_bit.md rule R341). -/
def exec_rlc_atIXd_C (d : Byte) (s : State) : Outcome := .next (s.rotIdx .ix .rlc (some .c) d)

/-- RLC (IX+d),D (44_rotate_shift_bit.md rule R341). -/
def exec_rlc_atIXd_D (d : Byte) (s : State) : Outcome := .next (s.rotIdx .ix .rlc (some .d) d)

/-- RLC (IX+d),E (44_rotate_shift_bit.md rule R341). -/
def exec_rlc_atIXd_E (d : Byte) (s : State) : Outcome := .next (s.rotIdx .ix .rlc (some .e) d)

/-- RLC (IX+d),H (44_rotate_shift_bit.md rule R341). -/
def exec_rlc_atIXd_H (d : Byte) (s : State) : Outcome := .next (s.rotIdx .ix .rlc (some .h) d)

/-- RLC (IX+d),L (44_rotate_shift_bit.md rule R341). -/
def exec_rlc_atIXd_L (d : Byte) (s : State) : Outcome := .next (s.rotIdx .ix .rlc (some .l) d)

/-- RLC (IX+d) (44_rotate_shift_bit.md rule R341). -/
def exec_rlc_atIXd (d : Byte) (s : State) : Outcome := .next (s.rotIdx .ix .rlc none d)

/-- RLC (IX+d),A (44_rotate_shift_bit.md rule R341). -/
def exec_rlc_atIXd_A (d : Byte) (s : State) : Outcome := .next (s.rotIdx .ix .rlc (some .a) d)

/-- RRC (IX+d),B (44_rotate_shift_bit.md rule R341). -/
def exec_rrc_atIXd_B (d : Byte) (s : State) : Outcome := .next (s.rotIdx .ix .rrc (some .b) d)

/-- RRC (IX+d),C (44_rotate_shift_bit.md rule R341). -/
def exec_rrc_atIXd_C (d : Byte) (s : State) : Outcome := .next (s.rotIdx .ix .rrc (some .c) d)

/-- RRC (IX+d),D (44_rotate_shift_bit.md rule R341). -/
def exec_rrc_atIXd_D (d : Byte) (s : State) : Outcome := .next (s.rotIdx .ix .rrc (some .d) d)

/-- RRC (IX+d),E (44_rotate_shift_bit.md rule R341). -/
def exec_rrc_atIXd_E (d : Byte) (s : State) : Outcome := .next (s.rotIdx .ix .rrc (some .e) d)

/-- RRC (IX+d),H (44_rotate_shift_bit.md rule R341). -/
def exec_rrc_atIXd_H (d : Byte) (s : State) : Outcome := .next (s.rotIdx .ix .rrc (some .h) d)

/-- RRC (IX+d),L (44_rotate_shift_bit.md rule R341). -/
def exec_rrc_atIXd_L (d : Byte) (s : State) : Outcome := .next (s.rotIdx .ix .rrc (some .l) d)

/-- RRC (IX+d) (44_rotate_shift_bit.md rule R341). -/
def exec_rrc_atIXd (d : Byte) (s : State) : Outcome := .next (s.rotIdx .ix .rrc none d)

/-- RRC (IX+d),A (44_rotate_shift_bit.md rule R341). -/
def exec_rrc_atIXd_A (d : Byte) (s : State) : Outcome := .next (s.rotIdx .ix .rrc (some .a) d)

/-- RL (IX+d),B (44_rotate_shift_bit.md rule R341). -/
def exec_rl_atIXd_B (d : Byte) (s : State) : Outcome := .next (s.rotIdx .ix .rl (some .b) d)

/-- RL (IX+d),C (44_rotate_shift_bit.md rule R341). -/
def exec_rl_atIXd_C (d : Byte) (s : State) : Outcome := .next (s.rotIdx .ix .rl (some .c) d)

/-- RL (IX+d),D (44_rotate_shift_bit.md rule R341). -/
def exec_rl_atIXd_D (d : Byte) (s : State) : Outcome := .next (s.rotIdx .ix .rl (some .d) d)

/-- RL (IX+d),E (44_rotate_shift_bit.md rule R341). -/
def exec_rl_atIXd_E (d : Byte) (s : State) : Outcome := .next (s.rotIdx .ix .rl (some .e) d)

/-- RL (IX+d),H (44_rotate_shift_bit.md rule R341). -/
def exec_rl_atIXd_H (d : Byte) (s : State) : Outcome := .next (s.rotIdx .ix .rl (some .h) d)

/-- RL (IX+d),L (44_rotate_shift_bit.md rule R341). -/
def exec_rl_atIXd_L (d : Byte) (s : State) : Outcome := .next (s.rotIdx .ix .rl (some .l) d)

/-- RL (IX+d) (44_rotate_shift_bit.md rule R341). -/
def exec_rl_atIXd (d : Byte) (s : State) : Outcome := .next (s.rotIdx .ix .rl none d)

/-- RL (IX+d),A (44_rotate_shift_bit.md rule R341). -/
def exec_rl_atIXd_A (d : Byte) (s : State) : Outcome := .next (s.rotIdx .ix .rl (some .a) d)

/-- RR (IX+d),B (44_rotate_shift_bit.md rule R341). -/
def exec_rr_atIXd_B (d : Byte) (s : State) : Outcome := .next (s.rotIdx .ix .rr (some .b) d)

/-- RR (IX+d),C (44_rotate_shift_bit.md rule R341). -/
def exec_rr_atIXd_C (d : Byte) (s : State) : Outcome := .next (s.rotIdx .ix .rr (some .c) d)

/-- RR (IX+d),D (44_rotate_shift_bit.md rule R341). -/
def exec_rr_atIXd_D (d : Byte) (s : State) : Outcome := .next (s.rotIdx .ix .rr (some .d) d)

/-- RR (IX+d),E (44_rotate_shift_bit.md rule R341). -/
def exec_rr_atIXd_E (d : Byte) (s : State) : Outcome := .next (s.rotIdx .ix .rr (some .e) d)

/-- RR (IX+d),H (44_rotate_shift_bit.md rule R341). -/
def exec_rr_atIXd_H (d : Byte) (s : State) : Outcome := .next (s.rotIdx .ix .rr (some .h) d)

/-- RR (IX+d),L (44_rotate_shift_bit.md rule R341). -/
def exec_rr_atIXd_L (d : Byte) (s : State) : Outcome := .next (s.rotIdx .ix .rr (some .l) d)

/-- RR (IX+d) (44_rotate_shift_bit.md rule R341). -/
def exec_rr_atIXd (d : Byte) (s : State) : Outcome := .next (s.rotIdx .ix .rr none d)

/-- RR (IX+d),A (44_rotate_shift_bit.md rule R341). -/
def exec_rr_atIXd_A (d : Byte) (s : State) : Outcome := .next (s.rotIdx .ix .rr (some .a) d)

/-- SLA (IX+d),B (44_rotate_shift_bit.md rule R341). -/
def exec_sla_atIXd_B (d : Byte) (s : State) : Outcome := .next (s.rotIdx .ix .sla (some .b) d)

/-- SLA (IX+d),C (44_rotate_shift_bit.md rule R341). -/
def exec_sla_atIXd_C (d : Byte) (s : State) : Outcome := .next (s.rotIdx .ix .sla (some .c) d)

/-- SLA (IX+d),D (44_rotate_shift_bit.md rule R341). -/
def exec_sla_atIXd_D (d : Byte) (s : State) : Outcome := .next (s.rotIdx .ix .sla (some .d) d)

/-- SLA (IX+d),E (44_rotate_shift_bit.md rule R341). -/
def exec_sla_atIXd_E (d : Byte) (s : State) : Outcome := .next (s.rotIdx .ix .sla (some .e) d)

/-- SLA (IX+d),H (44_rotate_shift_bit.md rule R341). -/
def exec_sla_atIXd_H (d : Byte) (s : State) : Outcome := .next (s.rotIdx .ix .sla (some .h) d)

/-- SLA (IX+d),L (44_rotate_shift_bit.md rule R341). -/
def exec_sla_atIXd_L (d : Byte) (s : State) : Outcome := .next (s.rotIdx .ix .sla (some .l) d)

/-- SLA (IX+d) (44_rotate_shift_bit.md rule R341). -/
def exec_sla_atIXd (d : Byte) (s : State) : Outcome := .next (s.rotIdx .ix .sla none d)

/-- SLA (IX+d),A (44_rotate_shift_bit.md rule R341). -/
def exec_sla_atIXd_A (d : Byte) (s : State) : Outcome := .next (s.rotIdx .ix .sla (some .a) d)

/-- SRA (IX+d),B (44_rotate_shift_bit.md rule R341). -/
def exec_sra_atIXd_B (d : Byte) (s : State) : Outcome := .next (s.rotIdx .ix .sra (some .b) d)

/-- SRA (IX+d),C (44_rotate_shift_bit.md rule R341). -/
def exec_sra_atIXd_C (d : Byte) (s : State) : Outcome := .next (s.rotIdx .ix .sra (some .c) d)

/-- SRA (IX+d),D (44_rotate_shift_bit.md rule R341). -/
def exec_sra_atIXd_D (d : Byte) (s : State) : Outcome := .next (s.rotIdx .ix .sra (some .d) d)

/-- SRA (IX+d),E (44_rotate_shift_bit.md rule R341). -/
def exec_sra_atIXd_E (d : Byte) (s : State) : Outcome := .next (s.rotIdx .ix .sra (some .e) d)

/-- SRA (IX+d),H (44_rotate_shift_bit.md rule R341). -/
def exec_sra_atIXd_H (d : Byte) (s : State) : Outcome := .next (s.rotIdx .ix .sra (some .h) d)

/-- SRA (IX+d),L (44_rotate_shift_bit.md rule R341). -/
def exec_sra_atIXd_L (d : Byte) (s : State) : Outcome := .next (s.rotIdx .ix .sra (some .l) d)

/-- SRA (IX+d) (44_rotate_shift_bit.md rule R341). -/
def exec_sra_atIXd (d : Byte) (s : State) : Outcome := .next (s.rotIdx .ix .sra none d)

/-- SRA (IX+d),A (44_rotate_shift_bit.md rule R341). -/
def exec_sra_atIXd_A (d : Byte) (s : State) : Outcome := .next (s.rotIdx .ix .sra (some .a) d)

/-- SLL (IX+d),B (44_rotate_shift_bit.md rule R341). -/
def exec_sll_atIXd_B (d : Byte) (s : State) : Outcome := .next (s.rotIdx .ix .sll (some .b) d)

/-- SLL (IX+d),C (44_rotate_shift_bit.md rule R341). -/
def exec_sll_atIXd_C (d : Byte) (s : State) : Outcome := .next (s.rotIdx .ix .sll (some .c) d)

/-- SLL (IX+d),D (44_rotate_shift_bit.md rule R341). -/
def exec_sll_atIXd_D (d : Byte) (s : State) : Outcome := .next (s.rotIdx .ix .sll (some .d) d)

/-- SLL (IX+d),E (44_rotate_shift_bit.md rule R341). -/
def exec_sll_atIXd_E (d : Byte) (s : State) : Outcome := .next (s.rotIdx .ix .sll (some .e) d)

/-- SLL (IX+d),H (44_rotate_shift_bit.md rule R341). -/
def exec_sll_atIXd_H (d : Byte) (s : State) : Outcome := .next (s.rotIdx .ix .sll (some .h) d)

/-- SLL (IX+d),L (44_rotate_shift_bit.md rule R341). -/
def exec_sll_atIXd_L (d : Byte) (s : State) : Outcome := .next (s.rotIdx .ix .sll (some .l) d)

/-- SLL (IX+d) (44_rotate_shift_bit.md rule R341). -/
def exec_sll_atIXd (d : Byte) (s : State) : Outcome := .next (s.rotIdx .ix .sll none d)

/-- SLL (IX+d),A (44_rotate_shift_bit.md rule R341). -/
def exec_sll_atIXd_A (d : Byte) (s : State) : Outcome := .next (s.rotIdx .ix .sll (some .a) d)

/-- SRL (IX+d),B (44_rotate_shift_bit.md rule R341). -/
def exec_srl_atIXd_B (d : Byte) (s : State) : Outcome := .next (s.rotIdx .ix .srl (some .b) d)

/-- SRL (IX+d),C (44_rotate_shift_bit.md rule R341). -/
def exec_srl_atIXd_C (d : Byte) (s : State) : Outcome := .next (s.rotIdx .ix .srl (some .c) d)

/-- SRL (IX+d),D (44_rotate_shift_bit.md rule R341). -/
def exec_srl_atIXd_D (d : Byte) (s : State) : Outcome := .next (s.rotIdx .ix .srl (some .d) d)

/-- SRL (IX+d),E (44_rotate_shift_bit.md rule R341). -/
def exec_srl_atIXd_E (d : Byte) (s : State) : Outcome := .next (s.rotIdx .ix .srl (some .e) d)

/-- SRL (IX+d),H (44_rotate_shift_bit.md rule R341). -/
def exec_srl_atIXd_H (d : Byte) (s : State) : Outcome := .next (s.rotIdx .ix .srl (some .h) d)

/-- SRL (IX+d),L (44_rotate_shift_bit.md rule R341). -/
def exec_srl_atIXd_L (d : Byte) (s : State) : Outcome := .next (s.rotIdx .ix .srl (some .l) d)

/-- SRL (IX+d) (44_rotate_shift_bit.md rule R341). -/
def exec_srl_atIXd (d : Byte) (s : State) : Outcome := .next (s.rotIdx .ix .srl none d)

/-- SRL (IX+d),A (44_rotate_shift_bit.md rule R341). -/
def exec_srl_atIXd_A (d : Byte) (s : State) : Outcome := .next (s.rotIdx .ix .srl (some .a) d)

/-- BIT 0,(IX+d) (44_rotate_shift_bit.md rule R342). -/
def exec_bit_0_atIXd (d : Byte) (_z : Fin 8) (s : State) : Outcome := .next (s.bitIdx .ix 0 d)

/-- BIT 1,(IX+d) (44_rotate_shift_bit.md rule R342). -/
def exec_bit_1_atIXd (d : Byte) (_z : Fin 8) (s : State) : Outcome := .next (s.bitIdx .ix 1 d)

/-- BIT 2,(IX+d) (44_rotate_shift_bit.md rule R342). -/
def exec_bit_2_atIXd (d : Byte) (_z : Fin 8) (s : State) : Outcome := .next (s.bitIdx .ix 2 d)

/-- BIT 3,(IX+d) (44_rotate_shift_bit.md rule R342). -/
def exec_bit_3_atIXd (d : Byte) (_z : Fin 8) (s : State) : Outcome := .next (s.bitIdx .ix 3 d)

/-- BIT 4,(IX+d) (44_rotate_shift_bit.md rule R342). -/
def exec_bit_4_atIXd (d : Byte) (_z : Fin 8) (s : State) : Outcome := .next (s.bitIdx .ix 4 d)

/-- BIT 5,(IX+d) (44_rotate_shift_bit.md rule R342). -/
def exec_bit_5_atIXd (d : Byte) (_z : Fin 8) (s : State) : Outcome := .next (s.bitIdx .ix 5 d)

/-- BIT 6,(IX+d) (44_rotate_shift_bit.md rule R342). -/
def exec_bit_6_atIXd (d : Byte) (_z : Fin 8) (s : State) : Outcome := .next (s.bitIdx .ix 6 d)

/-- BIT 7,(IX+d) (44_rotate_shift_bit.md rule R342). -/
def exec_bit_7_atIXd (d : Byte) (_z : Fin 8) (s : State) : Outcome := .next (s.bitIdx .ix 7 d)

/-- RES 0,(IX+d),B (44_rotate_shift_bit.md rule R343). -/
def exec_res_0_atIXd_B (d : Byte) (s : State) : Outcome := .next (s.resIdx .ix 0 (some .b) d)

/-- RES 0,(IX+d),C (44_rotate_shift_bit.md rule R343). -/
def exec_res_0_atIXd_C (d : Byte) (s : State) : Outcome := .next (s.resIdx .ix 0 (some .c) d)

/-- RES 0,(IX+d),D (44_rotate_shift_bit.md rule R343). -/
def exec_res_0_atIXd_D (d : Byte) (s : State) : Outcome := .next (s.resIdx .ix 0 (some .d) d)

/-- RES 0,(IX+d),E (44_rotate_shift_bit.md rule R343). -/
def exec_res_0_atIXd_E (d : Byte) (s : State) : Outcome := .next (s.resIdx .ix 0 (some .e) d)

/-- RES 0,(IX+d),H (44_rotate_shift_bit.md rule R343). -/
def exec_res_0_atIXd_H (d : Byte) (s : State) : Outcome := .next (s.resIdx .ix 0 (some .h) d)

/-- RES 0,(IX+d),L (44_rotate_shift_bit.md rule R343). -/
def exec_res_0_atIXd_L (d : Byte) (s : State) : Outcome := .next (s.resIdx .ix 0 (some .l) d)

/-- RES 0,(IX+d) (44_rotate_shift_bit.md rule R343). -/
def exec_res_0_atIXd (d : Byte) (s : State) : Outcome := .next (s.resIdx .ix 0 none d)

/-- RES 0,(IX+d),A (44_rotate_shift_bit.md rule R343). -/
def exec_res_0_atIXd_A (d : Byte) (s : State) : Outcome := .next (s.resIdx .ix 0 (some .a) d)

/-- RES 1,(IX+d),B (44_rotate_shift_bit.md rule R343). -/
def exec_res_1_atIXd_B (d : Byte) (s : State) : Outcome := .next (s.resIdx .ix 1 (some .b) d)

/-- RES 1,(IX+d),C (44_rotate_shift_bit.md rule R343). -/
def exec_res_1_atIXd_C (d : Byte) (s : State) : Outcome := .next (s.resIdx .ix 1 (some .c) d)

/-- RES 1,(IX+d),D (44_rotate_shift_bit.md rule R343). -/
def exec_res_1_atIXd_D (d : Byte) (s : State) : Outcome := .next (s.resIdx .ix 1 (some .d) d)

/-- RES 1,(IX+d),E (44_rotate_shift_bit.md rule R343). -/
def exec_res_1_atIXd_E (d : Byte) (s : State) : Outcome := .next (s.resIdx .ix 1 (some .e) d)

/-- RES 1,(IX+d),H (44_rotate_shift_bit.md rule R343). -/
def exec_res_1_atIXd_H (d : Byte) (s : State) : Outcome := .next (s.resIdx .ix 1 (some .h) d)

/-- RES 1,(IX+d),L (44_rotate_shift_bit.md rule R343). -/
def exec_res_1_atIXd_L (d : Byte) (s : State) : Outcome := .next (s.resIdx .ix 1 (some .l) d)

/-- RES 1,(IX+d) (44_rotate_shift_bit.md rule R343). -/
def exec_res_1_atIXd (d : Byte) (s : State) : Outcome := .next (s.resIdx .ix 1 none d)

/-- RES 1,(IX+d),A (44_rotate_shift_bit.md rule R343). -/
def exec_res_1_atIXd_A (d : Byte) (s : State) : Outcome := .next (s.resIdx .ix 1 (some .a) d)

/-- RES 2,(IX+d),B (44_rotate_shift_bit.md rule R343). -/
def exec_res_2_atIXd_B (d : Byte) (s : State) : Outcome := .next (s.resIdx .ix 2 (some .b) d)

/-- RES 2,(IX+d),C (44_rotate_shift_bit.md rule R343). -/
def exec_res_2_atIXd_C (d : Byte) (s : State) : Outcome := .next (s.resIdx .ix 2 (some .c) d)

/-- RES 2,(IX+d),D (44_rotate_shift_bit.md rule R343). -/
def exec_res_2_atIXd_D (d : Byte) (s : State) : Outcome := .next (s.resIdx .ix 2 (some .d) d)

/-- RES 2,(IX+d),E (44_rotate_shift_bit.md rule R343). -/
def exec_res_2_atIXd_E (d : Byte) (s : State) : Outcome := .next (s.resIdx .ix 2 (some .e) d)

/-- RES 2,(IX+d),H (44_rotate_shift_bit.md rule R343). -/
def exec_res_2_atIXd_H (d : Byte) (s : State) : Outcome := .next (s.resIdx .ix 2 (some .h) d)

/-- RES 2,(IX+d),L (44_rotate_shift_bit.md rule R343). -/
def exec_res_2_atIXd_L (d : Byte) (s : State) : Outcome := .next (s.resIdx .ix 2 (some .l) d)

/-- RES 2,(IX+d) (44_rotate_shift_bit.md rule R343). -/
def exec_res_2_atIXd (d : Byte) (s : State) : Outcome := .next (s.resIdx .ix 2 none d)

/-- RES 2,(IX+d),A (44_rotate_shift_bit.md rule R343). -/
def exec_res_2_atIXd_A (d : Byte) (s : State) : Outcome := .next (s.resIdx .ix 2 (some .a) d)

/-- RES 3,(IX+d),B (44_rotate_shift_bit.md rule R343). -/
def exec_res_3_atIXd_B (d : Byte) (s : State) : Outcome := .next (s.resIdx .ix 3 (some .b) d)

/-- RES 3,(IX+d),C (44_rotate_shift_bit.md rule R343). -/
def exec_res_3_atIXd_C (d : Byte) (s : State) : Outcome := .next (s.resIdx .ix 3 (some .c) d)

/-- RES 3,(IX+d),D (44_rotate_shift_bit.md rule R343). -/
def exec_res_3_atIXd_D (d : Byte) (s : State) : Outcome := .next (s.resIdx .ix 3 (some .d) d)

/-- RES 3,(IX+d),E (44_rotate_shift_bit.md rule R343). -/
def exec_res_3_atIXd_E (d : Byte) (s : State) : Outcome := .next (s.resIdx .ix 3 (some .e) d)

/-- RES 3,(IX+d),H (44_rotate_shift_bit.md rule R343). -/
def exec_res_3_atIXd_H (d : Byte) (s : State) : Outcome := .next (s.resIdx .ix 3 (some .h) d)

/-- RES 3,(IX+d),L (44_rotate_shift_bit.md rule R343). -/
def exec_res_3_atIXd_L (d : Byte) (s : State) : Outcome := .next (s.resIdx .ix 3 (some .l) d)

/-- RES 3,(IX+d) (44_rotate_shift_bit.md rule R343). -/
def exec_res_3_atIXd (d : Byte) (s : State) : Outcome := .next (s.resIdx .ix 3 none d)

/-- RES 3,(IX+d),A (44_rotate_shift_bit.md rule R343). -/
def exec_res_3_atIXd_A (d : Byte) (s : State) : Outcome := .next (s.resIdx .ix 3 (some .a) d)

/-- RES 4,(IX+d),B (44_rotate_shift_bit.md rule R343). -/
def exec_res_4_atIXd_B (d : Byte) (s : State) : Outcome := .next (s.resIdx .ix 4 (some .b) d)

/-- RES 4,(IX+d),C (44_rotate_shift_bit.md rule R343). -/
def exec_res_4_atIXd_C (d : Byte) (s : State) : Outcome := .next (s.resIdx .ix 4 (some .c) d)

/-- RES 4,(IX+d),D (44_rotate_shift_bit.md rule R343). -/
def exec_res_4_atIXd_D (d : Byte) (s : State) : Outcome := .next (s.resIdx .ix 4 (some .d) d)

/-- RES 4,(IX+d),E (44_rotate_shift_bit.md rule R343). -/
def exec_res_4_atIXd_E (d : Byte) (s : State) : Outcome := .next (s.resIdx .ix 4 (some .e) d)

/-- RES 4,(IX+d),H (44_rotate_shift_bit.md rule R343). -/
def exec_res_4_atIXd_H (d : Byte) (s : State) : Outcome := .next (s.resIdx .ix 4 (some .h) d)

/-- RES 4,(IX+d),L (44_rotate_shift_bit.md rule R343). -/
def exec_res_4_atIXd_L (d : Byte) (s : State) : Outcome := .next (s.resIdx .ix 4 (some .l) d)

/-- RES 4,(IX+d) (44_rotate_shift_bit.md rule R343). -/
def exec_res_4_atIXd (d : Byte) (s : State) : Outcome := .next (s.resIdx .ix 4 none d)

/-- RES 4,(IX+d),A (44_rotate_shift_bit.md rule R343). -/
def exec_res_4_atIXd_A (d : Byte) (s : State) : Outcome := .next (s.resIdx .ix 4 (some .a) d)

/-- RES 5,(IX+d),B (44_rotate_shift_bit.md rule R343). -/
def exec_res_5_atIXd_B (d : Byte) (s : State) : Outcome := .next (s.resIdx .ix 5 (some .b) d)

/-- RES 5,(IX+d),C (44_rotate_shift_bit.md rule R343). -/
def exec_res_5_atIXd_C (d : Byte) (s : State) : Outcome := .next (s.resIdx .ix 5 (some .c) d)

/-- RES 5,(IX+d),D (44_rotate_shift_bit.md rule R343). -/
def exec_res_5_atIXd_D (d : Byte) (s : State) : Outcome := .next (s.resIdx .ix 5 (some .d) d)

/-- RES 5,(IX+d),E (44_rotate_shift_bit.md rule R343). -/
def exec_res_5_atIXd_E (d : Byte) (s : State) : Outcome := .next (s.resIdx .ix 5 (some .e) d)

/-- RES 5,(IX+d),H (44_rotate_shift_bit.md rule R343). -/
def exec_res_5_atIXd_H (d : Byte) (s : State) : Outcome := .next (s.resIdx .ix 5 (some .h) d)

/-- RES 5,(IX+d),L (44_rotate_shift_bit.md rule R343). -/
def exec_res_5_atIXd_L (d : Byte) (s : State) : Outcome := .next (s.resIdx .ix 5 (some .l) d)

/-- RES 5,(IX+d) (44_rotate_shift_bit.md rule R343). -/
def exec_res_5_atIXd (d : Byte) (s : State) : Outcome := .next (s.resIdx .ix 5 none d)

/-- RES 5,(IX+d),A (44_rotate_shift_bit.md rule R343). -/
def exec_res_5_atIXd_A (d : Byte) (s : State) : Outcome := .next (s.resIdx .ix 5 (some .a) d)

/-- RES 6,(IX+d),B (44_rotate_shift_bit.md rule R343). -/
def exec_res_6_atIXd_B (d : Byte) (s : State) : Outcome := .next (s.resIdx .ix 6 (some .b) d)

/-- RES 6,(IX+d),C (44_rotate_shift_bit.md rule R343). -/
def exec_res_6_atIXd_C (d : Byte) (s : State) : Outcome := .next (s.resIdx .ix 6 (some .c) d)

/-- RES 6,(IX+d),D (44_rotate_shift_bit.md rule R343). -/
def exec_res_6_atIXd_D (d : Byte) (s : State) : Outcome := .next (s.resIdx .ix 6 (some .d) d)

/-- RES 6,(IX+d),E (44_rotate_shift_bit.md rule R343). -/
def exec_res_6_atIXd_E (d : Byte) (s : State) : Outcome := .next (s.resIdx .ix 6 (some .e) d)

/-- RES 6,(IX+d),H (44_rotate_shift_bit.md rule R343). -/
def exec_res_6_atIXd_H (d : Byte) (s : State) : Outcome := .next (s.resIdx .ix 6 (some .h) d)

/-- RES 6,(IX+d),L (44_rotate_shift_bit.md rule R343). -/
def exec_res_6_atIXd_L (d : Byte) (s : State) : Outcome := .next (s.resIdx .ix 6 (some .l) d)

/-- RES 6,(IX+d) (44_rotate_shift_bit.md rule R343). -/
def exec_res_6_atIXd (d : Byte) (s : State) : Outcome := .next (s.resIdx .ix 6 none d)

/-- RES 6,(IX+d),A (44_rotate_shift_bit.md rule R343). -/
def exec_res_6_atIXd_A (d : Byte) (s : State) : Outcome := .next (s.resIdx .ix 6 (some .a) d)

/-- RES 7,(IX+d),B (44_rotate_shift_bit.md rule R343). -/
def exec_res_7_atIXd_B (d : Byte) (s : State) : Outcome := .next (s.resIdx .ix 7 (some .b) d)

/-- RES 7,(IX+d),C (44_rotate_shift_bit.md rule R343). -/
def exec_res_7_atIXd_C (d : Byte) (s : State) : Outcome := .next (s.resIdx .ix 7 (some .c) d)

/-- RES 7,(IX+d),D (44_rotate_shift_bit.md rule R343). -/
def exec_res_7_atIXd_D (d : Byte) (s : State) : Outcome := .next (s.resIdx .ix 7 (some .d) d)

/-- RES 7,(IX+d),E (44_rotate_shift_bit.md rule R343). -/
def exec_res_7_atIXd_E (d : Byte) (s : State) : Outcome := .next (s.resIdx .ix 7 (some .e) d)

/-- RES 7,(IX+d),H (44_rotate_shift_bit.md rule R343). -/
def exec_res_7_atIXd_H (d : Byte) (s : State) : Outcome := .next (s.resIdx .ix 7 (some .h) d)

/-- RES 7,(IX+d),L (44_rotate_shift_bit.md rule R343). -/
def exec_res_7_atIXd_L (d : Byte) (s : State) : Outcome := .next (s.resIdx .ix 7 (some .l) d)

/-- RES 7,(IX+d) (44_rotate_shift_bit.md rule R343). -/
def exec_res_7_atIXd (d : Byte) (s : State) : Outcome := .next (s.resIdx .ix 7 none d)

/-- RES 7,(IX+d),A (44_rotate_shift_bit.md rule R343). -/
def exec_res_7_atIXd_A (d : Byte) (s : State) : Outcome := .next (s.resIdx .ix 7 (some .a) d)

/-- SET 0,(IX+d),B (44_rotate_shift_bit.md rule R344). -/
def exec_set_0_atIXd_B (d : Byte) (s : State) : Outcome := .next (s.setIdxBit .ix 0 (some .b) d)

/-- SET 0,(IX+d),C (44_rotate_shift_bit.md rule R344). -/
def exec_set_0_atIXd_C (d : Byte) (s : State) : Outcome := .next (s.setIdxBit .ix 0 (some .c) d)

/-- SET 0,(IX+d),D (44_rotate_shift_bit.md rule R344). -/
def exec_set_0_atIXd_D (d : Byte) (s : State) : Outcome := .next (s.setIdxBit .ix 0 (some .d) d)

/-- SET 0,(IX+d),E (44_rotate_shift_bit.md rule R344). -/
def exec_set_0_atIXd_E (d : Byte) (s : State) : Outcome := .next (s.setIdxBit .ix 0 (some .e) d)

/-- SET 0,(IX+d),H (44_rotate_shift_bit.md rule R344). -/
def exec_set_0_atIXd_H (d : Byte) (s : State) : Outcome := .next (s.setIdxBit .ix 0 (some .h) d)

/-- SET 0,(IX+d),L (44_rotate_shift_bit.md rule R344). -/
def exec_set_0_atIXd_L (d : Byte) (s : State) : Outcome := .next (s.setIdxBit .ix 0 (some .l) d)

/-- SET 0,(IX+d) (44_rotate_shift_bit.md rule R344). -/
def exec_set_0_atIXd (d : Byte) (s : State) : Outcome := .next (s.setIdxBit .ix 0 none d)

/-- SET 0,(IX+d),A (44_rotate_shift_bit.md rule R344). -/
def exec_set_0_atIXd_A (d : Byte) (s : State) : Outcome := .next (s.setIdxBit .ix 0 (some .a) d)

/-- SET 1,(IX+d),B (44_rotate_shift_bit.md rule R344). -/
def exec_set_1_atIXd_B (d : Byte) (s : State) : Outcome := .next (s.setIdxBit .ix 1 (some .b) d)

/-- SET 1,(IX+d),C (44_rotate_shift_bit.md rule R344). -/
def exec_set_1_atIXd_C (d : Byte) (s : State) : Outcome := .next (s.setIdxBit .ix 1 (some .c) d)

/-- SET 1,(IX+d),D (44_rotate_shift_bit.md rule R344). -/
def exec_set_1_atIXd_D (d : Byte) (s : State) : Outcome := .next (s.setIdxBit .ix 1 (some .d) d)

/-- SET 1,(IX+d),E (44_rotate_shift_bit.md rule R344). -/
def exec_set_1_atIXd_E (d : Byte) (s : State) : Outcome := .next (s.setIdxBit .ix 1 (some .e) d)

/-- SET 1,(IX+d),H (44_rotate_shift_bit.md rule R344). -/
def exec_set_1_atIXd_H (d : Byte) (s : State) : Outcome := .next (s.setIdxBit .ix 1 (some .h) d)

/-- SET 1,(IX+d),L (44_rotate_shift_bit.md rule R344). -/
def exec_set_1_atIXd_L (d : Byte) (s : State) : Outcome := .next (s.setIdxBit .ix 1 (some .l) d)

/-- SET 1,(IX+d) (44_rotate_shift_bit.md rule R344). -/
def exec_set_1_atIXd (d : Byte) (s : State) : Outcome := .next (s.setIdxBit .ix 1 none d)

/-- SET 1,(IX+d),A (44_rotate_shift_bit.md rule R344). -/
def exec_set_1_atIXd_A (d : Byte) (s : State) : Outcome := .next (s.setIdxBit .ix 1 (some .a) d)

/-- SET 2,(IX+d),B (44_rotate_shift_bit.md rule R344). -/
def exec_set_2_atIXd_B (d : Byte) (s : State) : Outcome := .next (s.setIdxBit .ix 2 (some .b) d)

/-- SET 2,(IX+d),C (44_rotate_shift_bit.md rule R344). -/
def exec_set_2_atIXd_C (d : Byte) (s : State) : Outcome := .next (s.setIdxBit .ix 2 (some .c) d)

/-- SET 2,(IX+d),D (44_rotate_shift_bit.md rule R344). -/
def exec_set_2_atIXd_D (d : Byte) (s : State) : Outcome := .next (s.setIdxBit .ix 2 (some .d) d)

/-- SET 2,(IX+d),E (44_rotate_shift_bit.md rule R344). -/
def exec_set_2_atIXd_E (d : Byte) (s : State) : Outcome := .next (s.setIdxBit .ix 2 (some .e) d)

/-- SET 2,(IX+d),H (44_rotate_shift_bit.md rule R344). -/
def exec_set_2_atIXd_H (d : Byte) (s : State) : Outcome := .next (s.setIdxBit .ix 2 (some .h) d)

/-- SET 2,(IX+d),L (44_rotate_shift_bit.md rule R344). -/
def exec_set_2_atIXd_L (d : Byte) (s : State) : Outcome := .next (s.setIdxBit .ix 2 (some .l) d)

/-- SET 2,(IX+d) (44_rotate_shift_bit.md rule R344). -/
def exec_set_2_atIXd (d : Byte) (s : State) : Outcome := .next (s.setIdxBit .ix 2 none d)

/-- SET 2,(IX+d),A (44_rotate_shift_bit.md rule R344). -/
def exec_set_2_atIXd_A (d : Byte) (s : State) : Outcome := .next (s.setIdxBit .ix 2 (some .a) d)

/-- SET 3,(IX+d),B (44_rotate_shift_bit.md rule R344). -/
def exec_set_3_atIXd_B (d : Byte) (s : State) : Outcome := .next (s.setIdxBit .ix 3 (some .b) d)

/-- SET 3,(IX+d),C (44_rotate_shift_bit.md rule R344). -/
def exec_set_3_atIXd_C (d : Byte) (s : State) : Outcome := .next (s.setIdxBit .ix 3 (some .c) d)

/-- SET 3,(IX+d),D (44_rotate_shift_bit.md rule R344). -/
def exec_set_3_atIXd_D (d : Byte) (s : State) : Outcome := .next (s.setIdxBit .ix 3 (some .d) d)

/-- SET 3,(IX+d),E (44_rotate_shift_bit.md rule R344). -/
def exec_set_3_atIXd_E (d : Byte) (s : State) : Outcome := .next (s.setIdxBit .ix 3 (some .e) d)

/-- SET 3,(IX+d),H (44_rotate_shift_bit.md rule R344). -/
def exec_set_3_atIXd_H (d : Byte) (s : State) : Outcome := .next (s.setIdxBit .ix 3 (some .h) d)

/-- SET 3,(IX+d),L (44_rotate_shift_bit.md rule R344). -/
def exec_set_3_atIXd_L (d : Byte) (s : State) : Outcome := .next (s.setIdxBit .ix 3 (some .l) d)

/-- SET 3,(IX+d) (44_rotate_shift_bit.md rule R344). -/
def exec_set_3_atIXd (d : Byte) (s : State) : Outcome := .next (s.setIdxBit .ix 3 none d)

/-- SET 3,(IX+d),A (44_rotate_shift_bit.md rule R344). -/
def exec_set_3_atIXd_A (d : Byte) (s : State) : Outcome := .next (s.setIdxBit .ix 3 (some .a) d)

/-- SET 4,(IX+d),B (44_rotate_shift_bit.md rule R344). -/
def exec_set_4_atIXd_B (d : Byte) (s : State) : Outcome := .next (s.setIdxBit .ix 4 (some .b) d)

/-- SET 4,(IX+d),C (44_rotate_shift_bit.md rule R344). -/
def exec_set_4_atIXd_C (d : Byte) (s : State) : Outcome := .next (s.setIdxBit .ix 4 (some .c) d)

/-- SET 4,(IX+d),D (44_rotate_shift_bit.md rule R344). -/
def exec_set_4_atIXd_D (d : Byte) (s : State) : Outcome := .next (s.setIdxBit .ix 4 (some .d) d)

/-- SET 4,(IX+d),E (44_rotate_shift_bit.md rule R344). -/
def exec_set_4_atIXd_E (d : Byte) (s : State) : Outcome := .next (s.setIdxBit .ix 4 (some .e) d)

/-- SET 4,(IX+d),H (44_rotate_shift_bit.md rule R344). -/
def exec_set_4_atIXd_H (d : Byte) (s : State) : Outcome := .next (s.setIdxBit .ix 4 (some .h) d)

/-- SET 4,(IX+d),L (44_rotate_shift_bit.md rule R344). -/
def exec_set_4_atIXd_L (d : Byte) (s : State) : Outcome := .next (s.setIdxBit .ix 4 (some .l) d)

/-- SET 4,(IX+d) (44_rotate_shift_bit.md rule R344). -/
def exec_set_4_atIXd (d : Byte) (s : State) : Outcome := .next (s.setIdxBit .ix 4 none d)

/-- SET 4,(IX+d),A (44_rotate_shift_bit.md rule R344). -/
def exec_set_4_atIXd_A (d : Byte) (s : State) : Outcome := .next (s.setIdxBit .ix 4 (some .a) d)

/-- SET 5,(IX+d),B (44_rotate_shift_bit.md rule R344). -/
def exec_set_5_atIXd_B (d : Byte) (s : State) : Outcome := .next (s.setIdxBit .ix 5 (some .b) d)

/-- SET 5,(IX+d),C (44_rotate_shift_bit.md rule R344). -/
def exec_set_5_atIXd_C (d : Byte) (s : State) : Outcome := .next (s.setIdxBit .ix 5 (some .c) d)

/-- SET 5,(IX+d),D (44_rotate_shift_bit.md rule R344). -/
def exec_set_5_atIXd_D (d : Byte) (s : State) : Outcome := .next (s.setIdxBit .ix 5 (some .d) d)

/-- SET 5,(IX+d),E (44_rotate_shift_bit.md rule R344). -/
def exec_set_5_atIXd_E (d : Byte) (s : State) : Outcome := .next (s.setIdxBit .ix 5 (some .e) d)

/-- SET 5,(IX+d),H (44_rotate_shift_bit.md rule R344). -/
def exec_set_5_atIXd_H (d : Byte) (s : State) : Outcome := .next (s.setIdxBit .ix 5 (some .h) d)

/-- SET 5,(IX+d),L (44_rotate_shift_bit.md rule R344). -/
def exec_set_5_atIXd_L (d : Byte) (s : State) : Outcome := .next (s.setIdxBit .ix 5 (some .l) d)

/-- SET 5,(IX+d) (44_rotate_shift_bit.md rule R344). -/
def exec_set_5_atIXd (d : Byte) (s : State) : Outcome := .next (s.setIdxBit .ix 5 none d)

/-- SET 5,(IX+d),A (44_rotate_shift_bit.md rule R344). -/
def exec_set_5_atIXd_A (d : Byte) (s : State) : Outcome := .next (s.setIdxBit .ix 5 (some .a) d)

/-- SET 6,(IX+d),B (44_rotate_shift_bit.md rule R344). -/
def exec_set_6_atIXd_B (d : Byte) (s : State) : Outcome := .next (s.setIdxBit .ix 6 (some .b) d)

/-- SET 6,(IX+d),C (44_rotate_shift_bit.md rule R344). -/
def exec_set_6_atIXd_C (d : Byte) (s : State) : Outcome := .next (s.setIdxBit .ix 6 (some .c) d)

/-- SET 6,(IX+d),D (44_rotate_shift_bit.md rule R344). -/
def exec_set_6_atIXd_D (d : Byte) (s : State) : Outcome := .next (s.setIdxBit .ix 6 (some .d) d)

/-- SET 6,(IX+d),E (44_rotate_shift_bit.md rule R344). -/
def exec_set_6_atIXd_E (d : Byte) (s : State) : Outcome := .next (s.setIdxBit .ix 6 (some .e) d)

/-- SET 6,(IX+d),H (44_rotate_shift_bit.md rule R344). -/
def exec_set_6_atIXd_H (d : Byte) (s : State) : Outcome := .next (s.setIdxBit .ix 6 (some .h) d)

/-- SET 6,(IX+d),L (44_rotate_shift_bit.md rule R344). -/
def exec_set_6_atIXd_L (d : Byte) (s : State) : Outcome := .next (s.setIdxBit .ix 6 (some .l) d)

/-- SET 6,(IX+d) (44_rotate_shift_bit.md rule R344). -/
def exec_set_6_atIXd (d : Byte) (s : State) : Outcome := .next (s.setIdxBit .ix 6 none d)

/-- SET 6,(IX+d),A (44_rotate_shift_bit.md rule R344). -/
def exec_set_6_atIXd_A (d : Byte) (s : State) : Outcome := .next (s.setIdxBit .ix 6 (some .a) d)

/-- SET 7,(IX+d),B (44_rotate_shift_bit.md rule R344). -/
def exec_set_7_atIXd_B (d : Byte) (s : State) : Outcome := .next (s.setIdxBit .ix 7 (some .b) d)

/-- SET 7,(IX+d),C (44_rotate_shift_bit.md rule R344). -/
def exec_set_7_atIXd_C (d : Byte) (s : State) : Outcome := .next (s.setIdxBit .ix 7 (some .c) d)

/-- SET 7,(IX+d),D (44_rotate_shift_bit.md rule R344). -/
def exec_set_7_atIXd_D (d : Byte) (s : State) : Outcome := .next (s.setIdxBit .ix 7 (some .d) d)

/-- SET 7,(IX+d),E (44_rotate_shift_bit.md rule R344). -/
def exec_set_7_atIXd_E (d : Byte) (s : State) : Outcome := .next (s.setIdxBit .ix 7 (some .e) d)

/-- SET 7,(IX+d),H (44_rotate_shift_bit.md rule R344). -/
def exec_set_7_atIXd_H (d : Byte) (s : State) : Outcome := .next (s.setIdxBit .ix 7 (some .h) d)

/-- SET 7,(IX+d),L (44_rotate_shift_bit.md rule R344). -/
def exec_set_7_atIXd_L (d : Byte) (s : State) : Outcome := .next (s.setIdxBit .ix 7 (some .l) d)

/-- SET 7,(IX+d) (44_rotate_shift_bit.md rule R344). -/
def exec_set_7_atIXd (d : Byte) (s : State) : Outcome := .next (s.setIdxBit .ix 7 none d)

/-- SET 7,(IX+d),A (44_rotate_shift_bit.md rule R344). -/
def exec_set_7_atIXd_A (d : Byte) (s : State) : Outcome := .next (s.setIdxBit .ix 7 (some .a) d)

/-- RLC (IY+d),B (44_rotate_shift_bit.md rule R341). -/
def exec_rlc_atIYd_B (d : Byte) (s : State) : Outcome := .next (s.rotIdx .iy .rlc (some .b) d)

/-- RLC (IY+d),C (44_rotate_shift_bit.md rule R341). -/
def exec_rlc_atIYd_C (d : Byte) (s : State) : Outcome := .next (s.rotIdx .iy .rlc (some .c) d)

/-- RLC (IY+d),D (44_rotate_shift_bit.md rule R341). -/
def exec_rlc_atIYd_D (d : Byte) (s : State) : Outcome := .next (s.rotIdx .iy .rlc (some .d) d)

/-- RLC (IY+d),E (44_rotate_shift_bit.md rule R341). -/
def exec_rlc_atIYd_E (d : Byte) (s : State) : Outcome := .next (s.rotIdx .iy .rlc (some .e) d)

/-- RLC (IY+d),H (44_rotate_shift_bit.md rule R341). -/
def exec_rlc_atIYd_H (d : Byte) (s : State) : Outcome := .next (s.rotIdx .iy .rlc (some .h) d)

/-- RLC (IY+d),L (44_rotate_shift_bit.md rule R341). -/
def exec_rlc_atIYd_L (d : Byte) (s : State) : Outcome := .next (s.rotIdx .iy .rlc (some .l) d)

/-- RLC (IY+d) (44_rotate_shift_bit.md rule R341). -/
def exec_rlc_atIYd (d : Byte) (s : State) : Outcome := .next (s.rotIdx .iy .rlc none d)

/-- RLC (IY+d),A (44_rotate_shift_bit.md rule R341). -/
def exec_rlc_atIYd_A (d : Byte) (s : State) : Outcome := .next (s.rotIdx .iy .rlc (some .a) d)

/-- RRC (IY+d),B (44_rotate_shift_bit.md rule R341). -/
def exec_rrc_atIYd_B (d : Byte) (s : State) : Outcome := .next (s.rotIdx .iy .rrc (some .b) d)

/-- RRC (IY+d),C (44_rotate_shift_bit.md rule R341). -/
def exec_rrc_atIYd_C (d : Byte) (s : State) : Outcome := .next (s.rotIdx .iy .rrc (some .c) d)

/-- RRC (IY+d),D (44_rotate_shift_bit.md rule R341). -/
def exec_rrc_atIYd_D (d : Byte) (s : State) : Outcome := .next (s.rotIdx .iy .rrc (some .d) d)

/-- RRC (IY+d),E (44_rotate_shift_bit.md rule R341). -/
def exec_rrc_atIYd_E (d : Byte) (s : State) : Outcome := .next (s.rotIdx .iy .rrc (some .e) d)

/-- RRC (IY+d),H (44_rotate_shift_bit.md rule R341). -/
def exec_rrc_atIYd_H (d : Byte) (s : State) : Outcome := .next (s.rotIdx .iy .rrc (some .h) d)

/-- RRC (IY+d),L (44_rotate_shift_bit.md rule R341). -/
def exec_rrc_atIYd_L (d : Byte) (s : State) : Outcome := .next (s.rotIdx .iy .rrc (some .l) d)

/-- RRC (IY+d) (44_rotate_shift_bit.md rule R341). -/
def exec_rrc_atIYd (d : Byte) (s : State) : Outcome := .next (s.rotIdx .iy .rrc none d)

/-- RRC (IY+d),A (44_rotate_shift_bit.md rule R341). -/
def exec_rrc_atIYd_A (d : Byte) (s : State) : Outcome := .next (s.rotIdx .iy .rrc (some .a) d)

/-- RL (IY+d),B (44_rotate_shift_bit.md rule R341). -/
def exec_rl_atIYd_B (d : Byte) (s : State) : Outcome := .next (s.rotIdx .iy .rl (some .b) d)

/-- RL (IY+d),C (44_rotate_shift_bit.md rule R341). -/
def exec_rl_atIYd_C (d : Byte) (s : State) : Outcome := .next (s.rotIdx .iy .rl (some .c) d)

/-- RL (IY+d),D (44_rotate_shift_bit.md rule R341). -/
def exec_rl_atIYd_D (d : Byte) (s : State) : Outcome := .next (s.rotIdx .iy .rl (some .d) d)

/-- RL (IY+d),E (44_rotate_shift_bit.md rule R341). -/
def exec_rl_atIYd_E (d : Byte) (s : State) : Outcome := .next (s.rotIdx .iy .rl (some .e) d)

/-- RL (IY+d),H (44_rotate_shift_bit.md rule R341). -/
def exec_rl_atIYd_H (d : Byte) (s : State) : Outcome := .next (s.rotIdx .iy .rl (some .h) d)

/-- RL (IY+d),L (44_rotate_shift_bit.md rule R341). -/
def exec_rl_atIYd_L (d : Byte) (s : State) : Outcome := .next (s.rotIdx .iy .rl (some .l) d)

/-- RL (IY+d) (44_rotate_shift_bit.md rule R341). -/
def exec_rl_atIYd (d : Byte) (s : State) : Outcome := .next (s.rotIdx .iy .rl none d)

/-- RL (IY+d),A (44_rotate_shift_bit.md rule R341). -/
def exec_rl_atIYd_A (d : Byte) (s : State) : Outcome := .next (s.rotIdx .iy .rl (some .a) d)

/-- RR (IY+d),B (44_rotate_shift_bit.md rule R341). -/
def exec_rr_atIYd_B (d : Byte) (s : State) : Outcome := .next (s.rotIdx .iy .rr (some .b) d)

/-- RR (IY+d),C (44_rotate_shift_bit.md rule R341). -/
def exec_rr_atIYd_C (d : Byte) (s : State) : Outcome := .next (s.rotIdx .iy .rr (some .c) d)

/-- RR (IY+d),D (44_rotate_shift_bit.md rule R341). -/
def exec_rr_atIYd_D (d : Byte) (s : State) : Outcome := .next (s.rotIdx .iy .rr (some .d) d)

/-- RR (IY+d),E (44_rotate_shift_bit.md rule R341). -/
def exec_rr_atIYd_E (d : Byte) (s : State) : Outcome := .next (s.rotIdx .iy .rr (some .e) d)

/-- RR (IY+d),H (44_rotate_shift_bit.md rule R341). -/
def exec_rr_atIYd_H (d : Byte) (s : State) : Outcome := .next (s.rotIdx .iy .rr (some .h) d)

/-- RR (IY+d),L (44_rotate_shift_bit.md rule R341). -/
def exec_rr_atIYd_L (d : Byte) (s : State) : Outcome := .next (s.rotIdx .iy .rr (some .l) d)

/-- RR (IY+d) (44_rotate_shift_bit.md rule R341). -/
def exec_rr_atIYd (d : Byte) (s : State) : Outcome := .next (s.rotIdx .iy .rr none d)

/-- RR (IY+d),A (44_rotate_shift_bit.md rule R341). -/
def exec_rr_atIYd_A (d : Byte) (s : State) : Outcome := .next (s.rotIdx .iy .rr (some .a) d)

/-- SLA (IY+d),B (44_rotate_shift_bit.md rule R341). -/
def exec_sla_atIYd_B (d : Byte) (s : State) : Outcome := .next (s.rotIdx .iy .sla (some .b) d)

/-- SLA (IY+d),C (44_rotate_shift_bit.md rule R341). -/
def exec_sla_atIYd_C (d : Byte) (s : State) : Outcome := .next (s.rotIdx .iy .sla (some .c) d)

/-- SLA (IY+d),D (44_rotate_shift_bit.md rule R341). -/
def exec_sla_atIYd_D (d : Byte) (s : State) : Outcome := .next (s.rotIdx .iy .sla (some .d) d)

/-- SLA (IY+d),E (44_rotate_shift_bit.md rule R341). -/
def exec_sla_atIYd_E (d : Byte) (s : State) : Outcome := .next (s.rotIdx .iy .sla (some .e) d)

/-- SLA (IY+d),H (44_rotate_shift_bit.md rule R341). -/
def exec_sla_atIYd_H (d : Byte) (s : State) : Outcome := .next (s.rotIdx .iy .sla (some .h) d)

/-- SLA (IY+d),L (44_rotate_shift_bit.md rule R341). -/
def exec_sla_atIYd_L (d : Byte) (s : State) : Outcome := .next (s.rotIdx .iy .sla (some .l) d)

/-- SLA (IY+d) (44_rotate_shift_bit.md rule R341). -/
def exec_sla_atIYd (d : Byte) (s : State) : Outcome := .next (s.rotIdx .iy .sla none d)

/-- SLA (IY+d),A (44_rotate_shift_bit.md rule R341). -/
def exec_sla_atIYd_A (d : Byte) (s : State) : Outcome := .next (s.rotIdx .iy .sla (some .a) d)

/-- SRA (IY+d),B (44_rotate_shift_bit.md rule R341). -/
def exec_sra_atIYd_B (d : Byte) (s : State) : Outcome := .next (s.rotIdx .iy .sra (some .b) d)

/-- SRA (IY+d),C (44_rotate_shift_bit.md rule R341). -/
def exec_sra_atIYd_C (d : Byte) (s : State) : Outcome := .next (s.rotIdx .iy .sra (some .c) d)

/-- SRA (IY+d),D (44_rotate_shift_bit.md rule R341). -/
def exec_sra_atIYd_D (d : Byte) (s : State) : Outcome := .next (s.rotIdx .iy .sra (some .d) d)

/-- SRA (IY+d),E (44_rotate_shift_bit.md rule R341). -/
def exec_sra_atIYd_E (d : Byte) (s : State) : Outcome := .next (s.rotIdx .iy .sra (some .e) d)

/-- SRA (IY+d),H (44_rotate_shift_bit.md rule R341). -/
def exec_sra_atIYd_H (d : Byte) (s : State) : Outcome := .next (s.rotIdx .iy .sra (some .h) d)

/-- SRA (IY+d),L (44_rotate_shift_bit.md rule R341). -/
def exec_sra_atIYd_L (d : Byte) (s : State) : Outcome := .next (s.rotIdx .iy .sra (some .l) d)

/-- SRA (IY+d) (44_rotate_shift_bit.md rule R341). -/
def exec_sra_atIYd (d : Byte) (s : State) : Outcome := .next (s.rotIdx .iy .sra none d)

/-- SRA (IY+d),A (44_rotate_shift_bit.md rule R341). -/
def exec_sra_atIYd_A (d : Byte) (s : State) : Outcome := .next (s.rotIdx .iy .sra (some .a) d)

/-- SLL (IY+d),B (44_rotate_shift_bit.md rule R341). -/
def exec_sll_atIYd_B (d : Byte) (s : State) : Outcome := .next (s.rotIdx .iy .sll (some .b) d)

/-- SLL (IY+d),C (44_rotate_shift_bit.md rule R341). -/
def exec_sll_atIYd_C (d : Byte) (s : State) : Outcome := .next (s.rotIdx .iy .sll (some .c) d)

/-- SLL (IY+d),D (44_rotate_shift_bit.md rule R341). -/
def exec_sll_atIYd_D (d : Byte) (s : State) : Outcome := .next (s.rotIdx .iy .sll (some .d) d)

/-- SLL (IY+d),E (44_rotate_shift_bit.md rule R341). -/
def exec_sll_atIYd_E (d : Byte) (s : State) : Outcome := .next (s.rotIdx .iy .sll (some .e) d)

/-- SLL (IY+d),H (44_rotate_shift_bit.md rule R341). -/
def exec_sll_atIYd_H (d : Byte) (s : State) : Outcome := .next (s.rotIdx .iy .sll (some .h) d)

/-- SLL (IY+d),L (44_rotate_shift_bit.md rule R341). -/
def exec_sll_atIYd_L (d : Byte) (s : State) : Outcome := .next (s.rotIdx .iy .sll (some .l) d)

/-- SLL (IY+d) (44_rotate_shift_bit.md rule R341). -/
def exec_sll_atIYd (d : Byte) (s : State) : Outcome := .next (s.rotIdx .iy .sll none d)

/-- SLL (IY+d),A (44_rotate_shift_bit.md rule R341). -/
def exec_sll_atIYd_A (d : Byte) (s : State) : Outcome := .next (s.rotIdx .iy .sll (some .a) d)

/-- SRL (IY+d),B (44_rotate_shift_bit.md rule R341). -/
def exec_srl_atIYd_B (d : Byte) (s : State) : Outcome := .next (s.rotIdx .iy .srl (some .b) d)

/-- SRL (IY+d),C (44_rotate_shift_bit.md rule R341). -/
def exec_srl_atIYd_C (d : Byte) (s : State) : Outcome := .next (s.rotIdx .iy .srl (some .c) d)

/-- SRL (IY+d),D (44_rotate_shift_bit.md rule R341). -/
def exec_srl_atIYd_D (d : Byte) (s : State) : Outcome := .next (s.rotIdx .iy .srl (some .d) d)

/-- SRL (IY+d),E (44_rotate_shift_bit.md rule R341). -/
def exec_srl_atIYd_E (d : Byte) (s : State) : Outcome := .next (s.rotIdx .iy .srl (some .e) d)

/-- SRL (IY+d),H (44_rotate_shift_bit.md rule R341). -/
def exec_srl_atIYd_H (d : Byte) (s : State) : Outcome := .next (s.rotIdx .iy .srl (some .h) d)

/-- SRL (IY+d),L (44_rotate_shift_bit.md rule R341). -/
def exec_srl_atIYd_L (d : Byte) (s : State) : Outcome := .next (s.rotIdx .iy .srl (some .l) d)

/-- SRL (IY+d) (44_rotate_shift_bit.md rule R341). -/
def exec_srl_atIYd (d : Byte) (s : State) : Outcome := .next (s.rotIdx .iy .srl none d)

/-- SRL (IY+d),A (44_rotate_shift_bit.md rule R341). -/
def exec_srl_atIYd_A (d : Byte) (s : State) : Outcome := .next (s.rotIdx .iy .srl (some .a) d)

/-- BIT 0,(IY+d) (44_rotate_shift_bit.md rule R342). -/
def exec_bit_0_atIYd (d : Byte) (_z : Fin 8) (s : State) : Outcome := .next (s.bitIdx .iy 0 d)

/-- BIT 1,(IY+d) (44_rotate_shift_bit.md rule R342). -/
def exec_bit_1_atIYd (d : Byte) (_z : Fin 8) (s : State) : Outcome := .next (s.bitIdx .iy 1 d)

/-- BIT 2,(IY+d) (44_rotate_shift_bit.md rule R342). -/
def exec_bit_2_atIYd (d : Byte) (_z : Fin 8) (s : State) : Outcome := .next (s.bitIdx .iy 2 d)

/-- BIT 3,(IY+d) (44_rotate_shift_bit.md rule R342). -/
def exec_bit_3_atIYd (d : Byte) (_z : Fin 8) (s : State) : Outcome := .next (s.bitIdx .iy 3 d)

/-- BIT 4,(IY+d) (44_rotate_shift_bit.md rule R342). -/
def exec_bit_4_atIYd (d : Byte) (_z : Fin 8) (s : State) : Outcome := .next (s.bitIdx .iy 4 d)

/-- BIT 5,(IY+d) (44_rotate_shift_bit.md rule R342). -/
def exec_bit_5_atIYd (d : Byte) (_z : Fin 8) (s : State) : Outcome := .next (s.bitIdx .iy 5 d)

/-- BIT 6,(IY+d) (44_rotate_shift_bit.md rule R342). -/
def exec_bit_6_atIYd (d : Byte) (_z : Fin 8) (s : State) : Outcome := .next (s.bitIdx .iy 6 d)

/-- BIT 7,(IY+d) (44_rotate_shift_bit.md rule R342). -/
def exec_bit_7_atIYd (d : Byte) (_z : Fin 8) (s : State) : Outcome := .next (s.bitIdx .iy 7 d)

/-- RES 0,(IY+d),B (44_rotate_shift_bit.md rule R343). -/
def exec_res_0_atIYd_B (d : Byte) (s : State) : Outcome := .next (s.resIdx .iy 0 (some .b) d)

/-- RES 0,(IY+d),C (44_rotate_shift_bit.md rule R343). -/
def exec_res_0_atIYd_C (d : Byte) (s : State) : Outcome := .next (s.resIdx .iy 0 (some .c) d)

/-- RES 0,(IY+d),D (44_rotate_shift_bit.md rule R343). -/
def exec_res_0_atIYd_D (d : Byte) (s : State) : Outcome := .next (s.resIdx .iy 0 (some .d) d)

/-- RES 0,(IY+d),E (44_rotate_shift_bit.md rule R343). -/
def exec_res_0_atIYd_E (d : Byte) (s : State) : Outcome := .next (s.resIdx .iy 0 (some .e) d)

/-- RES 0,(IY+d),H (44_rotate_shift_bit.md rule R343). -/
def exec_res_0_atIYd_H (d : Byte) (s : State) : Outcome := .next (s.resIdx .iy 0 (some .h) d)

/-- RES 0,(IY+d),L (44_rotate_shift_bit.md rule R343). -/
def exec_res_0_atIYd_L (d : Byte) (s : State) : Outcome := .next (s.resIdx .iy 0 (some .l) d)

/-- RES 0,(IY+d) (44_rotate_shift_bit.md rule R343). -/
def exec_res_0_atIYd (d : Byte) (s : State) : Outcome := .next (s.resIdx .iy 0 none d)

/-- RES 0,(IY+d),A (44_rotate_shift_bit.md rule R343). -/
def exec_res_0_atIYd_A (d : Byte) (s : State) : Outcome := .next (s.resIdx .iy 0 (some .a) d)

/-- RES 1,(IY+d),B (44_rotate_shift_bit.md rule R343). -/
def exec_res_1_atIYd_B (d : Byte) (s : State) : Outcome := .next (s.resIdx .iy 1 (some .b) d)

/-- RES 1,(IY+d),C (44_rotate_shift_bit.md rule R343). -/
def exec_res_1_atIYd_C (d : Byte) (s : State) : Outcome := .next (s.resIdx .iy 1 (some .c) d)

/-- RES 1,(IY+d),D (44_rotate_shift_bit.md rule R343). -/
def exec_res_1_atIYd_D (d : Byte) (s : State) : Outcome := .next (s.resIdx .iy 1 (some .d) d)

/-- RES 1,(IY+d),E (44_rotate_shift_bit.md rule R343). -/
def exec_res_1_atIYd_E (d : Byte) (s : State) : Outcome := .next (s.resIdx .iy 1 (some .e) d)

/-- RES 1,(IY+d),H (44_rotate_shift_bit.md rule R343). -/
def exec_res_1_atIYd_H (d : Byte) (s : State) : Outcome := .next (s.resIdx .iy 1 (some .h) d)

/-- RES 1,(IY+d),L (44_rotate_shift_bit.md rule R343). -/
def exec_res_1_atIYd_L (d : Byte) (s : State) : Outcome := .next (s.resIdx .iy 1 (some .l) d)

/-- RES 1,(IY+d) (44_rotate_shift_bit.md rule R343). -/
def exec_res_1_atIYd (d : Byte) (s : State) : Outcome := .next (s.resIdx .iy 1 none d)

/-- RES 1,(IY+d),A (44_rotate_shift_bit.md rule R343). -/
def exec_res_1_atIYd_A (d : Byte) (s : State) : Outcome := .next (s.resIdx .iy 1 (some .a) d)

/-- RES 2,(IY+d),B (44_rotate_shift_bit.md rule R343). -/
def exec_res_2_atIYd_B (d : Byte) (s : State) : Outcome := .next (s.resIdx .iy 2 (some .b) d)

/-- RES 2,(IY+d),C (44_rotate_shift_bit.md rule R343). -/
def exec_res_2_atIYd_C (d : Byte) (s : State) : Outcome := .next (s.resIdx .iy 2 (some .c) d)

/-- RES 2,(IY+d),D (44_rotate_shift_bit.md rule R343). -/
def exec_res_2_atIYd_D (d : Byte) (s : State) : Outcome := .next (s.resIdx .iy 2 (some .d) d)

/-- RES 2,(IY+d),E (44_rotate_shift_bit.md rule R343). -/
def exec_res_2_atIYd_E (d : Byte) (s : State) : Outcome := .next (s.resIdx .iy 2 (some .e) d)

/-- RES 2,(IY+d),H (44_rotate_shift_bit.md rule R343). -/
def exec_res_2_atIYd_H (d : Byte) (s : State) : Outcome := .next (s.resIdx .iy 2 (some .h) d)

/-- RES 2,(IY+d),L (44_rotate_shift_bit.md rule R343). -/
def exec_res_2_atIYd_L (d : Byte) (s : State) : Outcome := .next (s.resIdx .iy 2 (some .l) d)

/-- RES 2,(IY+d) (44_rotate_shift_bit.md rule R343). -/
def exec_res_2_atIYd (d : Byte) (s : State) : Outcome := .next (s.resIdx .iy 2 none d)

/-- RES 2,(IY+d),A (44_rotate_shift_bit.md rule R343). -/
def exec_res_2_atIYd_A (d : Byte) (s : State) : Outcome := .next (s.resIdx .iy 2 (some .a) d)

/-- RES 3,(IY+d),B (44_rotate_shift_bit.md rule R343). -/
def exec_res_3_atIYd_B (d : Byte) (s : State) : Outcome := .next (s.resIdx .iy 3 (some .b) d)

/-- RES 3,(IY+d),C (44_rotate_shift_bit.md rule R343). -/
def exec_res_3_atIYd_C (d : Byte) (s : State) : Outcome := .next (s.resIdx .iy 3 (some .c) d)

/-- RES 3,(IY+d),D (44_rotate_shift_bit.md rule R343). -/
def exec_res_3_atIYd_D (d : Byte) (s : State) : Outcome := .next (s.resIdx .iy 3 (some .d) d)

/-- RES 3,(IY+d),E (44_rotate_shift_bit.md rule R343). -/
def exec_res_3_atIYd_E (d : Byte) (s : State) : Outcome := .next (s.resIdx .iy 3 (some .e) d)

/-- RES 3,(IY+d),H (44_rotate_shift_bit.md rule R343). -/
def exec_res_3_atIYd_H (d : Byte) (s : State) : Outcome := .next (s.resIdx .iy 3 (some .h) d)

/-- RES 3,(IY+d),L (44_rotate_shift_bit.md rule R343). -/
def exec_res_3_atIYd_L (d : Byte) (s : State) : Outcome := .next (s.resIdx .iy 3 (some .l) d)

/-- RES 3,(IY+d) (44_rotate_shift_bit.md rule R343). -/
def exec_res_3_atIYd (d : Byte) (s : State) : Outcome := .next (s.resIdx .iy 3 none d)

/-- RES 3,(IY+d),A (44_rotate_shift_bit.md rule R343). -/
def exec_res_3_atIYd_A (d : Byte) (s : State) : Outcome := .next (s.resIdx .iy 3 (some .a) d)

/-- RES 4,(IY+d),B (44_rotate_shift_bit.md rule R343). -/
def exec_res_4_atIYd_B (d : Byte) (s : State) : Outcome := .next (s.resIdx .iy 4 (some .b) d)

/-- RES 4,(IY+d),C (44_rotate_shift_bit.md rule R343). -/
def exec_res_4_atIYd_C (d : Byte) (s : State) : Outcome := .next (s.resIdx .iy 4 (some .c) d)

/-- RES 4,(IY+d),D (44_rotate_shift_bit.md rule R343). -/
def exec_res_4_atIYd_D (d : Byte) (s : State) : Outcome := .next (s.resIdx .iy 4 (some .d) d)

/-- RES 4,(IY+d),E (44_rotate_shift_bit.md rule R343). -/
def exec_res_4_atIYd_E (d : Byte) (s : State) : Outcome := .next (s.resIdx .iy 4 (some .e) d)

/-- RES 4,(IY+d),H (44_rotate_shift_bit.md rule R343). -/
def exec_res_4_atIYd_H (d : Byte) (s : State) : Outcome := .next (s.resIdx .iy 4 (some .h) d)

/-- RES 4,(IY+d),L (44_rotate_shift_bit.md rule R343). -/
def exec_res_4_atIYd_L (d : Byte) (s : State) : Outcome := .next (s.resIdx .iy 4 (some .l) d)

/-- RES 4,(IY+d) (44_rotate_shift_bit.md rule R343). -/
def exec_res_4_atIYd (d : Byte) (s : State) : Outcome := .next (s.resIdx .iy 4 none d)

/-- RES 4,(IY+d),A (44_rotate_shift_bit.md rule R343). -/
def exec_res_4_atIYd_A (d : Byte) (s : State) : Outcome := .next (s.resIdx .iy 4 (some .a) d)

/-- RES 5,(IY+d),B (44_rotate_shift_bit.md rule R343). -/
def exec_res_5_atIYd_B (d : Byte) (s : State) : Outcome := .next (s.resIdx .iy 5 (some .b) d)

/-- RES 5,(IY+d),C (44_rotate_shift_bit.md rule R343). -/
def exec_res_5_atIYd_C (d : Byte) (s : State) : Outcome := .next (s.resIdx .iy 5 (some .c) d)

/-- RES 5,(IY+d),D (44_rotate_shift_bit.md rule R343). -/
def exec_res_5_atIYd_D (d : Byte) (s : State) : Outcome := .next (s.resIdx .iy 5 (some .d) d)

/-- RES 5,(IY+d),E (44_rotate_shift_bit.md rule R343). -/
def exec_res_5_atIYd_E (d : Byte) (s : State) : Outcome := .next (s.resIdx .iy 5 (some .e) d)

/-- RES 5,(IY+d),H (44_rotate_shift_bit.md rule R343). -/
def exec_res_5_atIYd_H (d : Byte) (s : State) : Outcome := .next (s.resIdx .iy 5 (some .h) d)

/-- RES 5,(IY+d),L (44_rotate_shift_bit.md rule R343). -/
def exec_res_5_atIYd_L (d : Byte) (s : State) : Outcome := .next (s.resIdx .iy 5 (some .l) d)

/-- RES 5,(IY+d) (44_rotate_shift_bit.md rule R343). -/
def exec_res_5_atIYd (d : Byte) (s : State) : Outcome := .next (s.resIdx .iy 5 none d)

/-- RES 5,(IY+d),A (44_rotate_shift_bit.md rule R343). -/
def exec_res_5_atIYd_A (d : Byte) (s : State) : Outcome := .next (s.resIdx .iy 5 (some .a) d)

/-- RES 6,(IY+d),B (44_rotate_shift_bit.md rule R343). -/
def exec_res_6_atIYd_B (d : Byte) (s : State) : Outcome := .next (s.resIdx .iy 6 (some .b) d)

/-- RES 6,(IY+d),C (44_rotate_shift_bit.md rule R343). -/
def exec_res_6_atIYd_C (d : Byte) (s : State) : Outcome := .next (s.resIdx .iy 6 (some .c) d)

/-- RES 6,(IY+d),D (44_rotate_shift_bit.md rule R343). -/
def exec_res_6_atIYd_D (d : Byte) (s : State) : Outcome := .next (s.resIdx .iy 6 (some .d) d)

/-- RES 6,(IY+d),E (44_rotate_shift_bit.md rule R343). -/
def exec_res_6_atIYd_E (d : Byte) (s : State) : Outcome := .next (s.resIdx .iy 6 (some .e) d)

/-- RES 6,(IY+d),H (44_rotate_shift_bit.md rule R343). -/
def exec_res_6_atIYd_H (d : Byte) (s : State) : Outcome := .next (s.resIdx .iy 6 (some .h) d)

/-- RES 6,(IY+d),L (44_rotate_shift_bit.md rule R343). -/
def exec_res_6_atIYd_L (d : Byte) (s : State) : Outcome := .next (s.resIdx .iy 6 (some .l) d)

/-- RES 6,(IY+d) (44_rotate_shift_bit.md rule R343). -/
def exec_res_6_atIYd (d : Byte) (s : State) : Outcome := .next (s.resIdx .iy 6 none d)

/-- RES 6,(IY+d),A (44_rotate_shift_bit.md rule R343). -/
def exec_res_6_atIYd_A (d : Byte) (s : State) : Outcome := .next (s.resIdx .iy 6 (some .a) d)

/-- RES 7,(IY+d),B (44_rotate_shift_bit.md rule R343). -/
def exec_res_7_atIYd_B (d : Byte) (s : State) : Outcome := .next (s.resIdx .iy 7 (some .b) d)

/-- RES 7,(IY+d),C (44_rotate_shift_bit.md rule R343). -/
def exec_res_7_atIYd_C (d : Byte) (s : State) : Outcome := .next (s.resIdx .iy 7 (some .c) d)

/-- RES 7,(IY+d),D (44_rotate_shift_bit.md rule R343). -/
def exec_res_7_atIYd_D (d : Byte) (s : State) : Outcome := .next (s.resIdx .iy 7 (some .d) d)

/-- RES 7,(IY+d),E (44_rotate_shift_bit.md rule R343). -/
def exec_res_7_atIYd_E (d : Byte) (s : State) : Outcome := .next (s.resIdx .iy 7 (some .e) d)

/-- RES 7,(IY+d),H (44_rotate_shift_bit.md rule R343). -/
def exec_res_7_atIYd_H (d : Byte) (s : State) : Outcome := .next (s.resIdx .iy 7 (some .h) d)

/-- RES 7,(IY+d),L (44_rotate_shift_bit.md rule R343). -/
def exec_res_7_atIYd_L (d : Byte) (s : State) : Outcome := .next (s.resIdx .iy 7 (some .l) d)

/-- RES 7,(IY+d) (44_rotate_shift_bit.md rule R343). -/
def exec_res_7_atIYd (d : Byte) (s : State) : Outcome := .next (s.resIdx .iy 7 none d)

/-- RES 7,(IY+d),A (44_rotate_shift_bit.md rule R343). -/
def exec_res_7_atIYd_A (d : Byte) (s : State) : Outcome := .next (s.resIdx .iy 7 (some .a) d)

/-- SET 0,(IY+d),B (44_rotate_shift_bit.md rule R344). -/
def exec_set_0_atIYd_B (d : Byte) (s : State) : Outcome := .next (s.setIdxBit .iy 0 (some .b) d)

/-- SET 0,(IY+d),C (44_rotate_shift_bit.md rule R344). -/
def exec_set_0_atIYd_C (d : Byte) (s : State) : Outcome := .next (s.setIdxBit .iy 0 (some .c) d)

/-- SET 0,(IY+d),D (44_rotate_shift_bit.md rule R344). -/
def exec_set_0_atIYd_D (d : Byte) (s : State) : Outcome := .next (s.setIdxBit .iy 0 (some .d) d)

/-- SET 0,(IY+d),E (44_rotate_shift_bit.md rule R344). -/
def exec_set_0_atIYd_E (d : Byte) (s : State) : Outcome := .next (s.setIdxBit .iy 0 (some .e) d)

/-- SET 0,(IY+d),H (44_rotate_shift_bit.md rule R344). -/
def exec_set_0_atIYd_H (d : Byte) (s : State) : Outcome := .next (s.setIdxBit .iy 0 (some .h) d)

/-- SET 0,(IY+d),L (44_rotate_shift_bit.md rule R344). -/
def exec_set_0_atIYd_L (d : Byte) (s : State) : Outcome := .next (s.setIdxBit .iy 0 (some .l) d)

/-- SET 0,(IY+d) (44_rotate_shift_bit.md rule R344). -/
def exec_set_0_atIYd (d : Byte) (s : State) : Outcome := .next (s.setIdxBit .iy 0 none d)

/-- SET 0,(IY+d),A (44_rotate_shift_bit.md rule R344). -/
def exec_set_0_atIYd_A (d : Byte) (s : State) : Outcome := .next (s.setIdxBit .iy 0 (some .a) d)

/-- SET 1,(IY+d),B (44_rotate_shift_bit.md rule R344). -/
def exec_set_1_atIYd_B (d : Byte) (s : State) : Outcome := .next (s.setIdxBit .iy 1 (some .b) d)

/-- SET 1,(IY+d),C (44_rotate_shift_bit.md rule R344). -/
def exec_set_1_atIYd_C (d : Byte) (s : State) : Outcome := .next (s.setIdxBit .iy 1 (some .c) d)

/-- SET 1,(IY+d),D (44_rotate_shift_bit.md rule R344). -/
def exec_set_1_atIYd_D (d : Byte) (s : State) : Outcome := .next (s.setIdxBit .iy 1 (some .d) d)

/-- SET 1,(IY+d),E (44_rotate_shift_bit.md rule R344). -/
def exec_set_1_atIYd_E (d : Byte) (s : State) : Outcome := .next (s.setIdxBit .iy 1 (some .e) d)

/-- SET 1,(IY+d),H (44_rotate_shift_bit.md rule R344). -/
def exec_set_1_atIYd_H (d : Byte) (s : State) : Outcome := .next (s.setIdxBit .iy 1 (some .h) d)

/-- SET 1,(IY+d),L (44_rotate_shift_bit.md rule R344). -/
def exec_set_1_atIYd_L (d : Byte) (s : State) : Outcome := .next (s.setIdxBit .iy 1 (some .l) d)

/-- SET 1,(IY+d) (44_rotate_shift_bit.md rule R344). -/
def exec_set_1_atIYd (d : Byte) (s : State) : Outcome := .next (s.setIdxBit .iy 1 none d)

/-- SET 1,(IY+d),A (44_rotate_shift_bit.md rule R344). -/
def exec_set_1_atIYd_A (d : Byte) (s : State) : Outcome := .next (s.setIdxBit .iy 1 (some .a) d)

/-- SET 2,(IY+d),B (44_rotate_shift_bit.md rule R344). -/
def exec_set_2_atIYd_B (d : Byte) (s : State) : Outcome := .next (s.setIdxBit .iy 2 (some .b) d)

/-- SET 2,(IY+d),C (44_rotate_shift_bit.md rule R344). -/
def exec_set_2_atIYd_C (d : Byte) (s : State) : Outcome := .next (s.setIdxBit .iy 2 (some .c) d)

/-- SET 2,(IY+d),D (44_rotate_shift_bit.md rule R344). -/
def exec_set_2_atIYd_D (d : Byte) (s : State) : Outcome := .next (s.setIdxBit .iy 2 (some .d) d)

/-- SET 2,(IY+d),E (44_rotate_shift_bit.md rule R344). -/
def exec_set_2_atIYd_E (d : Byte) (s : State) : Outcome := .next (s.setIdxBit .iy 2 (some .e) d)

/-- SET 2,(IY+d),H (44_rotate_shift_bit.md rule R344). -/
def exec_set_2_atIYd_H (d : Byte) (s : State) : Outcome := .next (s.setIdxBit .iy 2 (some .h) d)

/-- SET 2,(IY+d),L (44_rotate_shift_bit.md rule R344). -/
def exec_set_2_atIYd_L (d : Byte) (s : State) : Outcome := .next (s.setIdxBit .iy 2 (some .l) d)

/-- SET 2,(IY+d) (44_rotate_shift_bit.md rule R344). -/
def exec_set_2_atIYd (d : Byte) (s : State) : Outcome := .next (s.setIdxBit .iy 2 none d)

/-- SET 2,(IY+d),A (44_rotate_shift_bit.md rule R344). -/
def exec_set_2_atIYd_A (d : Byte) (s : State) : Outcome := .next (s.setIdxBit .iy 2 (some .a) d)

/-- SET 3,(IY+d),B (44_rotate_shift_bit.md rule R344). -/
def exec_set_3_atIYd_B (d : Byte) (s : State) : Outcome := .next (s.setIdxBit .iy 3 (some .b) d)

/-- SET 3,(IY+d),C (44_rotate_shift_bit.md rule R344). -/
def exec_set_3_atIYd_C (d : Byte) (s : State) : Outcome := .next (s.setIdxBit .iy 3 (some .c) d)

/-- SET 3,(IY+d),D (44_rotate_shift_bit.md rule R344). -/
def exec_set_3_atIYd_D (d : Byte) (s : State) : Outcome := .next (s.setIdxBit .iy 3 (some .d) d)

/-- SET 3,(IY+d),E (44_rotate_shift_bit.md rule R344). -/
def exec_set_3_atIYd_E (d : Byte) (s : State) : Outcome := .next (s.setIdxBit .iy 3 (some .e) d)

/-- SET 3,(IY+d),H (44_rotate_shift_bit.md rule R344). -/
def exec_set_3_atIYd_H (d : Byte) (s : State) : Outcome := .next (s.setIdxBit .iy 3 (some .h) d)

/-- SET 3,(IY+d),L (44_rotate_shift_bit.md rule R344). -/
def exec_set_3_atIYd_L (d : Byte) (s : State) : Outcome := .next (s.setIdxBit .iy 3 (some .l) d)

/-- SET 3,(IY+d) (44_rotate_shift_bit.md rule R344). -/
def exec_set_3_atIYd (d : Byte) (s : State) : Outcome := .next (s.setIdxBit .iy 3 none d)

/-- SET 3,(IY+d),A (44_rotate_shift_bit.md rule R344). -/
def exec_set_3_atIYd_A (d : Byte) (s : State) : Outcome := .next (s.setIdxBit .iy 3 (some .a) d)

/-- SET 4,(IY+d),B (44_rotate_shift_bit.md rule R344). -/
def exec_set_4_atIYd_B (d : Byte) (s : State) : Outcome := .next (s.setIdxBit .iy 4 (some .b) d)

/-- SET 4,(IY+d),C (44_rotate_shift_bit.md rule R344). -/
def exec_set_4_atIYd_C (d : Byte) (s : State) : Outcome := .next (s.setIdxBit .iy 4 (some .c) d)

/-- SET 4,(IY+d),D (44_rotate_shift_bit.md rule R344). -/
def exec_set_4_atIYd_D (d : Byte) (s : State) : Outcome := .next (s.setIdxBit .iy 4 (some .d) d)

/-- SET 4,(IY+d),E (44_rotate_shift_bit.md rule R344). -/
def exec_set_4_atIYd_E (d : Byte) (s : State) : Outcome := .next (s.setIdxBit .iy 4 (some .e) d)

/-- SET 4,(IY+d),H (44_rotate_shift_bit.md rule R344). -/
def exec_set_4_atIYd_H (d : Byte) (s : State) : Outcome := .next (s.setIdxBit .iy 4 (some .h) d)

/-- SET 4,(IY+d),L (44_rotate_shift_bit.md rule R344). -/
def exec_set_4_atIYd_L (d : Byte) (s : State) : Outcome := .next (s.setIdxBit .iy 4 (some .l) d)

/-- SET 4,(IY+d) (44_rotate_shift_bit.md rule R344). -/
def exec_set_4_atIYd (d : Byte) (s : State) : Outcome := .next (s.setIdxBit .iy 4 none d)

/-- SET 4,(IY+d),A (44_rotate_shift_bit.md rule R344). -/
def exec_set_4_atIYd_A (d : Byte) (s : State) : Outcome := .next (s.setIdxBit .iy 4 (some .a) d)

/-- SET 5,(IY+d),B (44_rotate_shift_bit.md rule R344). -/
def exec_set_5_atIYd_B (d : Byte) (s : State) : Outcome := .next (s.setIdxBit .iy 5 (some .b) d)

/-- SET 5,(IY+d),C (44_rotate_shift_bit.md rule R344). -/
def exec_set_5_atIYd_C (d : Byte) (s : State) : Outcome := .next (s.setIdxBit .iy 5 (some .c) d)

/-- SET 5,(IY+d),D (44_rotate_shift_bit.md rule R344). -/
def exec_set_5_atIYd_D (d : Byte) (s : State) : Outcome := .next (s.setIdxBit .iy 5 (some .d) d)

/-- SET 5,(IY+d),E (44_rotate_shift_bit.md rule R344). -/
def exec_set_5_atIYd_E (d : Byte) (s : State) : Outcome := .next (s.setIdxBit .iy 5 (some .e) d)

/-- SET 5,(IY+d),H (44_rotate_shift_bit.md rule R344). -/
def exec_set_5_atIYd_H (d : Byte) (s : State) : Outcome := .next (s.setIdxBit .iy 5 (some .h) d)

/-- SET 5,(IY+d),L (44_rotate_shift_bit.md rule R344). -/
def exec_set_5_atIYd_L (d : Byte) (s : State) : Outcome := .next (s.setIdxBit .iy 5 (some .l) d)

/-- SET 5,(IY+d) (44_rotate_shift_bit.md rule R344). -/
def exec_set_5_atIYd (d : Byte) (s : State) : Outcome := .next (s.setIdxBit .iy 5 none d)

/-- SET 5,(IY+d),A (44_rotate_shift_bit.md rule R344). -/
def exec_set_5_atIYd_A (d : Byte) (s : State) : Outcome := .next (s.setIdxBit .iy 5 (some .a) d)

/-- SET 6,(IY+d),B (44_rotate_shift_bit.md rule R344). -/
def exec_set_6_atIYd_B (d : Byte) (s : State) : Outcome := .next (s.setIdxBit .iy 6 (some .b) d)

/-- SET 6,(IY+d),C (44_rotate_shift_bit.md rule R344). -/
def exec_set_6_atIYd_C (d : Byte) (s : State) : Outcome := .next (s.setIdxBit .iy 6 (some .c) d)

/-- SET 6,(IY+d),D (44_rotate_shift_bit.md rule R344). -/
def exec_set_6_atIYd_D (d : Byte) (s : State) : Outcome := .next (s.setIdxBit .iy 6 (some .d) d)

/-- SET 6,(IY+d),E (44_rotate_shift_bit.md rule R344). -/
def exec_set_6_atIYd_E (d : Byte) (s : State) : Outcome := .next (s.setIdxBit .iy 6 (some .e) d)

/-- SET 6,(IY+d),H (44_rotate_shift_bit.md rule R344). -/
def exec_set_6_atIYd_H (d : Byte) (s : State) : Outcome := .next (s.setIdxBit .iy 6 (some .h) d)

/-- SET 6,(IY+d),L (44_rotate_shift_bit.md rule R344). -/
def exec_set_6_atIYd_L (d : Byte) (s : State) : Outcome := .next (s.setIdxBit .iy 6 (some .l) d)

/-- SET 6,(IY+d) (44_rotate_shift_bit.md rule R344). -/
def exec_set_6_atIYd (d : Byte) (s : State) : Outcome := .next (s.setIdxBit .iy 6 none d)

/-- SET 6,(IY+d),A (44_rotate_shift_bit.md rule R344). -/
def exec_set_6_atIYd_A (d : Byte) (s : State) : Outcome := .next (s.setIdxBit .iy 6 (some .a) d)

/-- SET 7,(IY+d),B (44_rotate_shift_bit.md rule R344). -/
def exec_set_7_atIYd_B (d : Byte) (s : State) : Outcome := .next (s.setIdxBit .iy 7 (some .b) d)

/-- SET 7,(IY+d),C (44_rotate_shift_bit.md rule R344). -/
def exec_set_7_atIYd_C (d : Byte) (s : State) : Outcome := .next (s.setIdxBit .iy 7 (some .c) d)

/-- SET 7,(IY+d),D (44_rotate_shift_bit.md rule R344). -/
def exec_set_7_atIYd_D (d : Byte) (s : State) : Outcome := .next (s.setIdxBit .iy 7 (some .d) d)

/-- SET 7,(IY+d),E (44_rotate_shift_bit.md rule R344). -/
def exec_set_7_atIYd_E (d : Byte) (s : State) : Outcome := .next (s.setIdxBit .iy 7 (some .e) d)

/-- SET 7,(IY+d),H (44_rotate_shift_bit.md rule R344). -/
def exec_set_7_atIYd_H (d : Byte) (s : State) : Outcome := .next (s.setIdxBit .iy 7 (some .h) d)

/-- SET 7,(IY+d),L (44_rotate_shift_bit.md rule R344). -/
def exec_set_7_atIYd_L (d : Byte) (s : State) : Outcome := .next (s.setIdxBit .iy 7 (some .l) d)

/-- SET 7,(IY+d) (44_rotate_shift_bit.md rule R344). -/
def exec_set_7_atIYd (d : Byte) (s : State) : Outcome := .next (s.setIdxBit .iy 7 none d)

/-- SET 7,(IY+d),A (44_rotate_shift_bit.md rule R344). -/
def exec_set_7_atIYd_A (d : Byte) (s : State) : Outcome := .next (s.setIdxBit .iy 7 (some .a) d)

end Sys2Proof.Machine
end

