-- ==== Sys2Proof/Machine/PrefixEd.lean ====
section
/-! DEFINITION. A DD or FD prefix before an ED instruction: the prefix is discarded and the ED instruction
runs as without it (48_cpu_control.md rule R438). -/

namespace Sys2Proof.Machine

/-- What an entry of the ED table does (30_encoding.md rule R116). -/
def runEd (e : EdOp) (s : State) : State :=
  match e with
  | .inReg k => s.inReg k
  | .inF => s.inF
  | .outReg k => s.outC (s.get8 k)
  | .outZero => s.outC s.params.outCZero
  | .sbcHL p => s.sbcHL (rpReg .hl p)
  | .adcHL p => s.adcHL (rpReg .hl p)
  | .store p nn => s.store16 (rpReg .hl p) nn 20
  | .load p nn => s.load16Mem (rpReg .hl p) nn 20
  | .neg _ => s.neg
  | .reti => s.reti
  | .retn _ => s.retn
  | .im y => s.setIm (imMode y)
  | .ldIA => s.loadIA
  | .ldRA => s.loadRA
  | .ldAI => s.loadAIr s.i
  | .ldAR => s.loadAIr s.r
  | .rrd => s.nibbleRotate rrdBytes
  | .rld => s.nibbleRotate rldBytes
  | .block fam up rep => s.block fam up rep
  | .noni _ => s.noni

/-! ### One meaning per instruction -/

/-- prefix IX before ED: prefix discarded, then the ED instruction (48_cpu_control.md rule R438). -/
def exec_prefixIX_ED (e : EdOp) (s : State) : Outcome := .next (runEd e s)

/-- prefix IY before ED: prefix discarded, then the ED instruction (48_cpu_control.md rule R438). -/
def exec_prefixIY_ED (e : EdOp) (s : State) : Outcome := .next (runEd e s)

end Sys2Proof.Machine
end

