-- ==== Sys2Proof/Machine/Dispatch.lean ====
section
/-! DEFINITION. Which meaning each instruction has: one arm per constructor of `Instr`. -/

namespace Sys2Proof.Machine

def exec (i : Instr) (s : State) : Host.Outcome State Fault Refusal :=
  match i with
  | .nop => Sys2Proof.Machine.exec_nop s
  | .ld_BC_nn nn => Sys2Proof.Machine.exec_ld_BC_nn nn s
  | .ld_atBC_A => Sys2Proof.Machine.exec_ld_atBC_A s
  | .inc_BC => Sys2Proof.Machine.exec_inc_BC s
  | .inc_B => Sys2Proof.Machine.exec_inc_B s
  | .dec_B => Sys2Proof.Machine.exec_dec_B s
  | .ld_B_n n => Sys2Proof.Machine.exec_ld_B_n n s
  | .rlca => Sys2Proof.Machine.exec_rlca s
  | .ex_AF_AF => Sys2Proof.Machine.exec_ex_AF_AF s
  | .add_HL_BC => Sys2Proof.Machine.exec_add_HL_BC s
  | .ld_A_atBC => Sys2Proof.Machine.exec_ld_A_atBC s
  | .dec_BC => Sys2Proof.Machine.exec_dec_BC s
  | .inc_C => Sys2Proof.Machine.exec_inc_C s
  | .dec_C => Sys2Proof.Machine.exec_dec_C s
  | .ld_C_n n => Sys2Proof.Machine.exec_ld_C_n n s
  | .rrca => Sys2Proof.Machine.exec_rrca s
  | .djnz_e e => Sys2Proof.Machine.exec_djnz_e e s
  | .ld_DE_nn nn => Sys2Proof.Machine.exec_ld_DE_nn nn s
  | .ld_atDE_A => Sys2Proof.Machine.exec_ld_atDE_A s
  | .inc_DE => Sys2Proof.Machine.exec_inc_DE s
  | .inc_D => Sys2Proof.Machine.exec_inc_D s
  | .dec_D => Sys2Proof.Machine.exec_dec_D s
  | .ld_D_n n => Sys2Proof.Machine.exec_ld_D_n n s
  | .rla => Sys2Proof.Machine.exec_rla s
  | .jr_e e => Sys2Proof.Machine.exec_jr_e e s
  | .add_HL_DE => Sys2Proof.Machine.exec_add_HL_DE s
  | .ld_A_atDE => Sys2Proof.Machine.exec_ld_A_atDE s
  | .dec_DE => Sys2Proof.Machine.exec_dec_DE s
  | .inc_E => Sys2Proof.Machine.exec_inc_E s
  | .dec_E => Sys2Proof.Machine.exec_dec_E s
  | .ld_E_n n => Sys2Proof.Machine.exec_ld_E_n n s
  | .rra => Sys2Proof.Machine.exec_rra s
  | .jr_NZ_e e => Sys2Proof.Machine.exec_jr_NZ_e e s
  | .ld_HL_nn nn => Sys2Proof.Machine.exec_ld_HL_nn nn s
  | .ld_atNn_HL nn => Sys2Proof.Machine.exec_ld_atNn_HL nn s
  | .inc_HL => Sys2Proof.Machine.exec_inc_HL s
  | .inc_H => Sys2Proof.Machine.exec_inc_H s
  | .dec_H => Sys2Proof.Machine.exec_dec_H s
  | .ld_H_n n => Sys2Proof.Machine.exec_ld_H_n n s
  | .daa => Sys2Proof.Machine.exec_daa s
  | .jr_Z_e e => Sys2Proof.Machine.exec_jr_Z_e e s
  | .add_HL_HL => Sys2Proof.Machine.exec_add_HL_HL s
  | .ld_HL_atNn nn => Sys2Proof.Machine.exec_ld_HL_atNn nn s
  | .dec_HL => Sys2Proof.Machine.exec_dec_HL s
  | .inc_L => Sys2Proof.Machine.exec_inc_L s
  | .dec_L => Sys2Proof.Machine.exec_dec_L s
  | .ld_L_n n => Sys2Proof.Machine.exec_ld_L_n n s
  | .cpl => Sys2Proof.Machine.exec_cpl s
  | .jr_NC_e e => Sys2Proof.Machine.exec_jr_NC_e e s
  | .ld_SP_nn nn => Sys2Proof.Machine.exec_ld_SP_nn nn s
  | .ld_atNn_A nn => Sys2Proof.Machine.exec_ld_atNn_A nn s
  | .inc_SP => Sys2Proof.Machine.exec_inc_SP s
  | .inc_atHL => Sys2Proof.Machine.exec_inc_atHL s
  | .dec_atHL => Sys2Proof.Machine.exec_dec_atHL s
  | .ld_atHL_n n => Sys2Proof.Machine.exec_ld_atHL_n n s
  | .scf => Sys2Proof.Machine.exec_scf s
  | .jr_C_e e => Sys2Proof.Machine.exec_jr_C_e e s
  | .add_HL_SP => Sys2Proof.Machine.exec_add_HL_SP s
  | .ld_A_atNn nn => Sys2Proof.Machine.exec_ld_A_atNn nn s
  | .dec_SP => Sys2Proof.Machine.exec_dec_SP s
  | .inc_A => Sys2Proof.Machine.exec_inc_A s
  | .dec_A => Sys2Proof.Machine.exec_dec_A s
  | .ld_A_n n => Sys2Proof.Machine.exec_ld_A_n n s
  | .ccf => Sys2Proof.Machine.exec_ccf s
  | .ld_B_B => Sys2Proof.Machine.exec_ld_B_B s
  | .ld_B_C => Sys2Proof.Machine.exec_ld_B_C s
  | .ld_B_D => Sys2Proof.Machine.exec_ld_B_D s
  | .ld_B_E => Sys2Proof.Machine.exec_ld_B_E s
  | .ld_B_H => Sys2Proof.Machine.exec_ld_B_H s
  | .ld_B_L => Sys2Proof.Machine.exec_ld_B_L s
  | .ld_B_atHL => Sys2Proof.Machine.exec_ld_B_atHL s
  | .ld_B_A => Sys2Proof.Machine.exec_ld_B_A s
  | .ld_C_B => Sys2Proof.Machine.exec_ld_C_B s
  | .ld_C_C => Sys2Proof.Machine.exec_ld_C_C s
  | .ld_C_D => Sys2Proof.Machine.exec_ld_C_D s
  | .ld_C_E => Sys2Proof.Machine.exec_ld_C_E s
  | .ld_C_H => Sys2Proof.Machine.exec_ld_C_H s
  | .ld_C_L => Sys2Proof.Machine.exec_ld_C_L s
  | .ld_C_atHL => Sys2Proof.Machine.exec_ld_C_atHL s
  | .ld_C_A => Sys2Proof.Machine.exec_ld_C_A s
  | .ld_D_B => Sys2Proof.Machine.exec_ld_D_B s
  | .ld_D_C => Sys2Proof.Machine.exec_ld_D_C s
  | .ld_D_D => Sys2Proof.Machine.exec_ld_D_D s
  | .ld_D_E => Sys2Proof.Machine.exec_ld_D_E s
  | .ld_D_H => Sys2Proof.Machine.exec_ld_D_H s
  | .ld_D_L => Sys2Proof.Machine.exec_ld_D_L s
  | .ld_D_atHL => Sys2Proof.Machine.exec_ld_D_atHL s
  | .ld_D_A => Sys2Proof.Machine.exec_ld_D_A s
  | .ld_E_B => Sys2Proof.Machine.exec_ld_E_B s
  | .ld_E_C => Sys2Proof.Machine.exec_ld_E_C s
  | .ld_E_D => Sys2Proof.Machine.exec_ld_E_D s
  | .ld_E_E => Sys2Proof.Machine.exec_ld_E_E s
  | .ld_E_H => Sys2Proof.Machine.exec_ld_E_H s
  | .ld_E_L => Sys2Proof.Machine.exec_ld_E_L s
  | .ld_E_atHL => Sys2Proof.Machine.exec_ld_E_atHL s
  | .ld_E_A => Sys2Proof.Machine.exec_ld_E_A s
  | .ld_H_B => Sys2Proof.Machine.exec_ld_H_B s
  | .ld_H_C => Sys2Proof.Machine.exec_ld_H_C s
  | .ld_H_D => Sys2Proof.Machine.exec_ld_H_D s
  | .ld_H_E => Sys2Proof.Machine.exec_ld_H_E s
  | .ld_H_H => Sys2Proof.Machine.exec_ld_H_H s
  | .ld_H_L => Sys2Proof.Machine.exec_ld_H_L s
  | .ld_H_atHL => Sys2Proof.Machine.exec_ld_H_atHL s
  | .ld_H_A => Sys2Proof.Machine.exec_ld_H_A s
  | .ld_L_B => Sys2Proof.Machine.exec_ld_L_B s
  | .ld_L_C => Sys2Proof.Machine.exec_ld_L_C s
  | .ld_L_D => Sys2Proof.Machine.exec_ld_L_D s
  | .ld_L_E => Sys2Proof.Machine.exec_ld_L_E s
  | .ld_L_H => Sys2Proof.Machine.exec_ld_L_H s
  | .ld_L_L => Sys2Proof.Machine.exec_ld_L_L s
  | .ld_L_atHL => Sys2Proof.Machine.exec_ld_L_atHL s
  | .ld_L_A => Sys2Proof.Machine.exec_ld_L_A s
  | .ld_atHL_B => Sys2Proof.Machine.exec_ld_atHL_B s
  | .ld_atHL_C => Sys2Proof.Machine.exec_ld_atHL_C s
  | .ld_atHL_D => Sys2Proof.Machine.exec_ld_atHL_D s
  | .ld_atHL_E => Sys2Proof.Machine.exec_ld_atHL_E s
  | .ld_atHL_H => Sys2Proof.Machine.exec_ld_atHL_H s
  | .ld_atHL_L => Sys2Proof.Machine.exec_ld_atHL_L s
  | .halt => Sys2Proof.Machine.exec_halt s
  | .ld_atHL_A => Sys2Proof.Machine.exec_ld_atHL_A s
  | .ld_A_B => Sys2Proof.Machine.exec_ld_A_B s
  | .ld_A_C => Sys2Proof.Machine.exec_ld_A_C s
  | .ld_A_D => Sys2Proof.Machine.exec_ld_A_D s
  | .ld_A_E => Sys2Proof.Machine.exec_ld_A_E s
  | .ld_A_H => Sys2Proof.Machine.exec_ld_A_H s
  | .ld_A_L => Sys2Proof.Machine.exec_ld_A_L s
  | .ld_A_atHL => Sys2Proof.Machine.exec_ld_A_atHL s
  | .ld_A_A => Sys2Proof.Machine.exec_ld_A_A s
  | .add_A_B => Sys2Proof.Machine.exec_add_A_B s
  | .add_A_C => Sys2Proof.Machine.exec_add_A_C s
  | .add_A_D => Sys2Proof.Machine.exec_add_A_D s
  | .add_A_E => Sys2Proof.Machine.exec_add_A_E s
  | .add_A_H => Sys2Proof.Machine.exec_add_A_H s
  | .add_A_L => Sys2Proof.Machine.exec_add_A_L s
  | .add_A_atHL => Sys2Proof.Machine.exec_add_A_atHL s
  | .add_A_A => Sys2Proof.Machine.exec_add_A_A s
  | .adc_A_B => Sys2Proof.Machine.exec_adc_A_B s
  | .adc_A_C => Sys2Proof.Machine.exec_adc_A_C s
  | .adc_A_D => Sys2Proof.Machine.exec_adc_A_D s
  | .adc_A_E => Sys2Proof.Machine.exec_adc_A_E s
  | .adc_A_H => Sys2Proof.Machine.exec_adc_A_H s
  | .adc_A_L => Sys2Proof.Machine.exec_adc_A_L s
  | .adc_A_atHL => Sys2Proof.Machine.exec_adc_A_atHL s
  | .adc_A_A => Sys2Proof.Machine.exec_adc_A_A s
  | .sub_B => Sys2Proof.Machine.exec_sub_B s
  | .sub_C => Sys2Proof.Machine.exec_sub_C s
  | .sub_D => Sys2Proof.Machine.exec_sub_D s
  | .sub_E => Sys2Proof.Machine.exec_sub_E s
  | .sub_H => Sys2Proof.Machine.exec_sub_H s
  | .sub_L => Sys2Proof.Machine.exec_sub_L s
  | .sub_atHL => Sys2Proof.Machine.exec_sub_atHL s
  | .sub_A => Sys2Proof.Machine.exec_sub_A s
  | .sbc_A_B => Sys2Proof.Machine.exec_sbc_A_B s
  | .sbc_A_C => Sys2Proof.Machine.exec_sbc_A_C s
  | .sbc_A_D => Sys2Proof.Machine.exec_sbc_A_D s
  | .sbc_A_E => Sys2Proof.Machine.exec_sbc_A_E s
  | .sbc_A_H => Sys2Proof.Machine.exec_sbc_A_H s
  | .sbc_A_L => Sys2Proof.Machine.exec_sbc_A_L s
  | .sbc_A_atHL => Sys2Proof.Machine.exec_sbc_A_atHL s
  | .sbc_A_A => Sys2Proof.Machine.exec_sbc_A_A s
  | .and_B => Sys2Proof.Machine.exec_and_B s
  | .and_C => Sys2Proof.Machine.exec_and_C s
  | .and_D => Sys2Proof.Machine.exec_and_D s
  | .and_E => Sys2Proof.Machine.exec_and_E s
  | .and_H => Sys2Proof.Machine.exec_and_H s
  | .and_L => Sys2Proof.Machine.exec_and_L s
  | .and_atHL => Sys2Proof.Machine.exec_and_atHL s
  | .and_A => Sys2Proof.Machine.exec_and_A s
  | .xor_B => Sys2Proof.Machine.exec_xor_B s
  | .xor_C => Sys2Proof.Machine.exec_xor_C s
  | .xor_D => Sys2Proof.Machine.exec_xor_D s
  | .xor_E => Sys2Proof.Machine.exec_xor_E s
  | .xor_H => Sys2Proof.Machine.exec_xor_H s
  | .xor_L => Sys2Proof.Machine.exec_xor_L s
  | .xor_atHL => Sys2Proof.Machine.exec_xor_atHL s
  | .xor_A => Sys2Proof.Machine.exec_xor_A s
  | .or_B => Sys2Proof.Machine.exec_or_B s
  | .or_C => Sys2Proof.Machine.exec_or_C s
  | .or_D => Sys2Proof.Machine.exec_or_D s
  | .or_E => Sys2Proof.Machine.exec_or_E s
  | .or_H => Sys2Proof.Machine.exec_or_H s
  | .or_L => Sys2Proof.Machine.exec_or_L s
  | .or_atHL => Sys2Proof.Machine.exec_or_atHL s
  | .or_A => Sys2Proof.Machine.exec_or_A s
  | .cp_B => Sys2Proof.Machine.exec_cp_B s
  | .cp_C => Sys2Proof.Machine.exec_cp_C s
  | .cp_D => Sys2Proof.Machine.exec_cp_D s
  | .cp_E => Sys2Proof.Machine.exec_cp_E s
  | .cp_H => Sys2Proof.Machine.exec_cp_H s
  | .cp_L => Sys2Proof.Machine.exec_cp_L s
  | .cp_atHL => Sys2Proof.Machine.exec_cp_atHL s
  | .cp_A => Sys2Proof.Machine.exec_cp_A s
  | .ret_NZ => Sys2Proof.Machine.exec_ret_NZ s
  | .pop_BC => Sys2Proof.Machine.exec_pop_BC s
  | .jp_NZ_nn nn => Sys2Proof.Machine.exec_jp_NZ_nn nn s
  | .jp_nn nn => Sys2Proof.Machine.exec_jp_nn nn s
  | .call_NZ_nn nn => Sys2Proof.Machine.exec_call_NZ_nn nn s
  | .push_BC => Sys2Proof.Machine.exec_push_BC s
  | .add_A_n n => Sys2Proof.Machine.exec_add_A_n n s
  | .rst_00 => Sys2Proof.Machine.exec_rst_00 s
  | .ret_Z => Sys2Proof.Machine.exec_ret_Z s
  | .ret => Sys2Proof.Machine.exec_ret s
  | .jp_Z_nn nn => Sys2Proof.Machine.exec_jp_Z_nn nn s
  | .call_Z_nn nn => Sys2Proof.Machine.exec_call_Z_nn nn s
  | .call_nn nn => Sys2Proof.Machine.exec_call_nn nn s
  | .adc_A_n n => Sys2Proof.Machine.exec_adc_A_n n s
  | .rst_08 => Sys2Proof.Machine.exec_rst_08 s
  | .ret_NC => Sys2Proof.Machine.exec_ret_NC s
  | .pop_DE => Sys2Proof.Machine.exec_pop_DE s
  | .jp_NC_nn nn => Sys2Proof.Machine.exec_jp_NC_nn nn s
  | .out_atN_A n => Sys2Proof.Machine.exec_out_atN_A n s
  | .call_NC_nn nn => Sys2Proof.Machine.exec_call_NC_nn nn s
  | .push_DE => Sys2Proof.Machine.exec_push_DE s
  | .sub_n n => Sys2Proof.Machine.exec_sub_n n s
  | .rst_10 => Sys2Proof.Machine.exec_rst_10 s
  | .ret_C => Sys2Proof.Machine.exec_ret_C s
  | .exx => Sys2Proof.Machine.exec_exx s
  | .jp_C_nn nn => Sys2Proof.Machine.exec_jp_C_nn nn s
  | .in_A_atN n => Sys2Proof.Machine.exec_in_A_atN n s
  | .call_C_nn nn => Sys2Proof.Machine.exec_call_C_nn nn s
  | .prefixIX => Sys2Proof.Machine.exec_prefixIX s
  | .sbc_A_n n => Sys2Proof.Machine.exec_sbc_A_n n s
  | .rst_18 => Sys2Proof.Machine.exec_rst_18 s
  | .ret_PO => Sys2Proof.Machine.exec_ret_PO s
  | .pop_HL => Sys2Proof.Machine.exec_pop_HL s
  | .jp_PO_nn nn => Sys2Proof.Machine.exec_jp_PO_nn nn s
  | .ex_atSP_HL => Sys2Proof.Machine.exec_ex_atSP_HL s
  | .call_PO_nn nn => Sys2Proof.Machine.exec_call_PO_nn nn s
  | .push_HL => Sys2Proof.Machine.exec_push_HL s
  | .and_n n => Sys2Proof.Machine.exec_and_n n s
  | .rst_20 => Sys2Proof.Machine.exec_rst_20 s
  | .ret_PE => Sys2Proof.Machine.exec_ret_PE s
  | .jp_atHL => Sys2Proof.Machine.exec_jp_atHL s
  | .jp_PE_nn nn => Sys2Proof.Machine.exec_jp_PE_nn nn s
  | .ex_DE_HL => Sys2Proof.Machine.exec_ex_DE_HL s
  | .call_PE_nn nn => Sys2Proof.Machine.exec_call_PE_nn nn s
  | .xor_n n => Sys2Proof.Machine.exec_xor_n n s
  | .rst_28 => Sys2Proof.Machine.exec_rst_28 s
  | .ret_P => Sys2Proof.Machine.exec_ret_P s
  | .pop_AF => Sys2Proof.Machine.exec_pop_AF s
  | .jp_P_nn nn => Sys2Proof.Machine.exec_jp_P_nn nn s
  | .di => Sys2Proof.Machine.exec_di s
  | .call_P_nn nn => Sys2Proof.Machine.exec_call_P_nn nn s
  | .push_AF => Sys2Proof.Machine.exec_push_AF s
  | .or_n n => Sys2Proof.Machine.exec_or_n n s
  | .rst_30 => Sys2Proof.Machine.exec_rst_30 s
  | .ret_M => Sys2Proof.Machine.exec_ret_M s
  | .ld_SP_HL => Sys2Proof.Machine.exec_ld_SP_HL s
  | .jp_M_nn nn => Sys2Proof.Machine.exec_jp_M_nn nn s
  | .ei => Sys2Proof.Machine.exec_ei s
  | .call_M_nn nn => Sys2Proof.Machine.exec_call_M_nn nn s
  | .prefixIY => Sys2Proof.Machine.exec_prefixIY s
  | .cp_n n => Sys2Proof.Machine.exec_cp_n n s
  | .rst_38 => Sys2Proof.Machine.exec_rst_38 s
  | .rlc_B => Sys2Proof.Machine.exec_rlc_B s
  | .rlc_C => Sys2Proof.Machine.exec_rlc_C s
  | .rlc_D => Sys2Proof.Machine.exec_rlc_D s
  | .rlc_E => Sys2Proof.Machine.exec_rlc_E s
  | .rlc_H => Sys2Proof.Machine.exec_rlc_H s
  | .rlc_L => Sys2Proof.Machine.exec_rlc_L s
  | .rlc_atHL => Sys2Proof.Machine.exec_rlc_atHL s
  | .rlc_A => Sys2Proof.Machine.exec_rlc_A s
  | .rrc_B => Sys2Proof.Machine.exec_rrc_B s
  | .rrc_C => Sys2Proof.Machine.exec_rrc_C s
  | .rrc_D => Sys2Proof.Machine.exec_rrc_D s
  | .rrc_E => Sys2Proof.Machine.exec_rrc_E s
  | .rrc_H => Sys2Proof.Machine.exec_rrc_H s
  | .rrc_L => Sys2Proof.Machine.exec_rrc_L s
  | .rrc_atHL => Sys2Proof.Machine.exec_rrc_atHL s
  | .rrc_A => Sys2Proof.Machine.exec_rrc_A s
  | .rl_B => Sys2Proof.Machine.exec_rl_B s
  | .rl_C => Sys2Proof.Machine.exec_rl_C s
  | .rl_D => Sys2Proof.Machine.exec_rl_D s
  | .rl_E => Sys2Proof.Machine.exec_rl_E s
  | .rl_H => Sys2Proof.Machine.exec_rl_H s
  | .rl_L => Sys2Proof.Machine.exec_rl_L s
  | .rl_atHL => Sys2Proof.Machine.exec_rl_atHL s
  | .rl_A => Sys2Proof.Machine.exec_rl_A s
  | .rr_B => Sys2Proof.Machine.exec_rr_B s
  | .rr_C => Sys2Proof.Machine.exec_rr_C s
  | .rr_D => Sys2Proof.Machine.exec_rr_D s
  | .rr_E => Sys2Proof.Machine.exec_rr_E s
  | .rr_H => Sys2Proof.Machine.exec_rr_H s
  | .rr_L => Sys2Proof.Machine.exec_rr_L s
  | .rr_atHL => Sys2Proof.Machine.exec_rr_atHL s
  | .rr_A => Sys2Proof.Machine.exec_rr_A s
  | .sla_B => Sys2Proof.Machine.exec_sla_B s
  | .sla_C => Sys2Proof.Machine.exec_sla_C s
  | .sla_D => Sys2Proof.Machine.exec_sla_D s
  | .sla_E => Sys2Proof.Machine.exec_sla_E s
  | .sla_H => Sys2Proof.Machine.exec_sla_H s
  | .sla_L => Sys2Proof.Machine.exec_sla_L s
  | .sla_atHL => Sys2Proof.Machine.exec_sla_atHL s
  | .sla_A => Sys2Proof.Machine.exec_sla_A s
  | .sra_B => Sys2Proof.Machine.exec_sra_B s
  | .sra_C => Sys2Proof.Machine.exec_sra_C s
  | .sra_D => Sys2Proof.Machine.exec_sra_D s
  | .sra_E => Sys2Proof.Machine.exec_sra_E s
  | .sra_H => Sys2Proof.Machine.exec_sra_H s
  | .sra_L => Sys2Proof.Machine.exec_sra_L s
  | .sra_atHL => Sys2Proof.Machine.exec_sra_atHL s
  | .sra_A => Sys2Proof.Machine.exec_sra_A s
  | .sll_B => Sys2Proof.Machine.exec_sll_B s
  | .sll_C => Sys2Proof.Machine.exec_sll_C s
  | .sll_D => Sys2Proof.Machine.exec_sll_D s
  | .sll_E => Sys2Proof.Machine.exec_sll_E s
  | .sll_H => Sys2Proof.Machine.exec_sll_H s
  | .sll_L => Sys2Proof.Machine.exec_sll_L s
  | .sll_atHL => Sys2Proof.Machine.exec_sll_atHL s
  | .sll_A => Sys2Proof.Machine.exec_sll_A s
  | .srl_B => Sys2Proof.Machine.exec_srl_B s
  | .srl_C => Sys2Proof.Machine.exec_srl_C s
  | .srl_D => Sys2Proof.Machine.exec_srl_D s
  | .srl_E => Sys2Proof.Machine.exec_srl_E s
  | .srl_H => Sys2Proof.Machine.exec_srl_H s
  | .srl_L => Sys2Proof.Machine.exec_srl_L s
  | .srl_atHL => Sys2Proof.Machine.exec_srl_atHL s
  | .srl_A => Sys2Proof.Machine.exec_srl_A s
  | .bit_0_B => Sys2Proof.Machine.exec_bit_0_B s
  | .bit_0_C => Sys2Proof.Machine.exec_bit_0_C s
  | .bit_0_D => Sys2Proof.Machine.exec_bit_0_D s
  | .bit_0_E => Sys2Proof.Machine.exec_bit_0_E s
  | .bit_0_H => Sys2Proof.Machine.exec_bit_0_H s
  | .bit_0_L => Sys2Proof.Machine.exec_bit_0_L s
  | .bit_0_atHL => Sys2Proof.Machine.exec_bit_0_atHL s
  | .bit_0_A => Sys2Proof.Machine.exec_bit_0_A s
  | .bit_1_B => Sys2Proof.Machine.exec_bit_1_B s
  | .bit_1_C => Sys2Proof.Machine.exec_bit_1_C s
  | .bit_1_D => Sys2Proof.Machine.exec_bit_1_D s
  | .bit_1_E => Sys2Proof.Machine.exec_bit_1_E s
  | .bit_1_H => Sys2Proof.Machine.exec_bit_1_H s
  | .bit_1_L => Sys2Proof.Machine.exec_bit_1_L s
  | .bit_1_atHL => Sys2Proof.Machine.exec_bit_1_atHL s
  | .bit_1_A => Sys2Proof.Machine.exec_bit_1_A s
  | .bit_2_B => Sys2Proof.Machine.exec_bit_2_B s
  | .bit_2_C => Sys2Proof.Machine.exec_bit_2_C s
  | .bit_2_D => Sys2Proof.Machine.exec_bit_2_D s
  | .bit_2_E => Sys2Proof.Machine.exec_bit_2_E s
  | .bit_2_H => Sys2Proof.Machine.exec_bit_2_H s
  | .bit_2_L => Sys2Proof.Machine.exec_bit_2_L s
  | .bit_2_atHL => Sys2Proof.Machine.exec_bit_2_atHL s
  | .bit_2_A => Sys2Proof.Machine.exec_bit_2_A s
  | .bit_3_B => Sys2Proof.Machine.exec_bit_3_B s
  | .bit_3_C => Sys2Proof.Machine.exec_bit_3_C s
  | .bit_3_D => Sys2Proof.Machine.exec_bit_3_D s
  | .bit_3_E => Sys2Proof.Machine.exec_bit_3_E s
  | .bit_3_H => Sys2Proof.Machine.exec_bit_3_H s
  | .bit_3_L => Sys2Proof.Machine.exec_bit_3_L s
  | .bit_3_atHL => Sys2Proof.Machine.exec_bit_3_atHL s
  | .bit_3_A => Sys2Proof.Machine.exec_bit_3_A s
  | .bit_4_B => Sys2Proof.Machine.exec_bit_4_B s
  | .bit_4_C => Sys2Proof.Machine.exec_bit_4_C s
  | .bit_4_D => Sys2Proof.Machine.exec_bit_4_D s
  | .bit_4_E => Sys2Proof.Machine.exec_bit_4_E s
  | .bit_4_H => Sys2Proof.Machine.exec_bit_4_H s
  | .bit_4_L => Sys2Proof.Machine.exec_bit_4_L s
  | .bit_4_atHL => Sys2Proof.Machine.exec_bit_4_atHL s
  | .bit_4_A => Sys2Proof.Machine.exec_bit_4_A s
  | .bit_5_B => Sys2Proof.Machine.exec_bit_5_B s
  | .bit_5_C => Sys2Proof.Machine.exec_bit_5_C s
  | .bit_5_D => Sys2Proof.Machine.exec_bit_5_D s
  | .bit_5_E => Sys2Proof.Machine.exec_bit_5_E s
  | .bit_5_H => Sys2Proof.Machine.exec_bit_5_H s
  | .bit_5_L => Sys2Proof.Machine.exec_bit_5_L s
  | .bit_5_atHL => Sys2Proof.Machine.exec_bit_5_atHL s
  | .bit_5_A => Sys2Proof.Machine.exec_bit_5_A s
  | .bit_6_B => Sys2Proof.Machine.exec_bit_6_B s
  | .bit_6_C => Sys2Proof.Machine.exec_bit_6_C s
  | .bit_6_D => Sys2Proof.Machine.exec_bit_6_D s
  | .bit_6_E => Sys2Proof.Machine.exec_bit_6_E s
  | .bit_6_H => Sys2Proof.Machine.exec_bit_6_H s
  | .bit_6_L => Sys2Proof.Machine.exec_bit_6_L s
  | .bit_6_atHL => Sys2Proof.Machine.exec_bit_6_atHL s
  | .bit_6_A => Sys2Proof.Machine.exec_bit_6_A s
  | .bit_7_B => Sys2Proof.Machine.exec_bit_7_B s
  | .bit_7_C => Sys2Proof.Machine.exec_bit_7_C s
  | .bit_7_D => Sys2Proof.Machine.exec_bit_7_D s
  | .bit_7_E => Sys2Proof.Machine.exec_bit_7_E s
  | .bit_7_H => Sys2Proof.Machine.exec_bit_7_H s
  | .bit_7_L => Sys2Proof.Machine.exec_bit_7_L s
  | .bit_7_atHL => Sys2Proof.Machine.exec_bit_7_atHL s
  | .bit_7_A => Sys2Proof.Machine.exec_bit_7_A s
  | .res_0_B => Sys2Proof.Machine.exec_res_0_B s
  | .res_0_C => Sys2Proof.Machine.exec_res_0_C s
  | .res_0_D => Sys2Proof.Machine.exec_res_0_D s
  | .res_0_E => Sys2Proof.Machine.exec_res_0_E s
  | .res_0_H => Sys2Proof.Machine.exec_res_0_H s
  | .res_0_L => Sys2Proof.Machine.exec_res_0_L s
  | .res_0_atHL => Sys2Proof.Machine.exec_res_0_atHL s
  | .res_0_A => Sys2Proof.Machine.exec_res_0_A s
  | .res_1_B => Sys2Proof.Machine.exec_res_1_B s
  | .res_1_C => Sys2Proof.Machine.exec_res_1_C s
  | .res_1_D => Sys2Proof.Machine.exec_res_1_D s
  | .res_1_E => Sys2Proof.Machine.exec_res_1_E s
  | .res_1_H => Sys2Proof.Machine.exec_res_1_H s
  | .res_1_L => Sys2Proof.Machine.exec_res_1_L s
  | .res_1_atHL => Sys2Proof.Machine.exec_res_1_atHL s
  | .res_1_A => Sys2Proof.Machine.exec_res_1_A s
  | .res_2_B => Sys2Proof.Machine.exec_res_2_B s
  | .res_2_C => Sys2Proof.Machine.exec_res_2_C s
  | .res_2_D => Sys2Proof.Machine.exec_res_2_D s
  | .res_2_E => Sys2Proof.Machine.exec_res_2_E s
  | .res_2_H => Sys2Proof.Machine.exec_res_2_H s
  | .res_2_L => Sys2Proof.Machine.exec_res_2_L s
  | .res_2_atHL => Sys2Proof.Machine.exec_res_2_atHL s
  | .res_2_A => Sys2Proof.Machine.exec_res_2_A s
  | .res_3_B => Sys2Proof.Machine.exec_res_3_B s
  | .res_3_C => Sys2Proof.Machine.exec_res_3_C s
  | .res_3_D => Sys2Proof.Machine.exec_res_3_D s
  | .res_3_E => Sys2Proof.Machine.exec_res_3_E s
  | .res_3_H => Sys2Proof.Machine.exec_res_3_H s
  | .res_3_L => Sys2Proof.Machine.exec_res_3_L s
  | .res_3_atHL => Sys2Proof.Machine.exec_res_3_atHL s
  | .res_3_A => Sys2Proof.Machine.exec_res_3_A s
  | .res_4_B => Sys2Proof.Machine.exec_res_4_B s
  | .res_4_C => Sys2Proof.Machine.exec_res_4_C s
  | .res_4_D => Sys2Proof.Machine.exec_res_4_D s
  | .res_4_E => Sys2Proof.Machine.exec_res_4_E s
  | .res_4_H => Sys2Proof.Machine.exec_res_4_H s
  | .res_4_L => Sys2Proof.Machine.exec_res_4_L s
  | .res_4_atHL => Sys2Proof.Machine.exec_res_4_atHL s
  | .res_4_A => Sys2Proof.Machine.exec_res_4_A s
  | .res_5_B => Sys2Proof.Machine.exec_res_5_B s
  | .res_5_C => Sys2Proof.Machine.exec_res_5_C s
  | .res_5_D => Sys2Proof.Machine.exec_res_5_D s
  | .res_5_E => Sys2Proof.Machine.exec_res_5_E s
  | .res_5_H => Sys2Proof.Machine.exec_res_5_H s
  | .res_5_L => Sys2Proof.Machine.exec_res_5_L s
  | .res_5_atHL => Sys2Proof.Machine.exec_res_5_atHL s
  | .res_5_A => Sys2Proof.Machine.exec_res_5_A s
  | .res_6_B => Sys2Proof.Machine.exec_res_6_B s
  | .res_6_C => Sys2Proof.Machine.exec_res_6_C s
  | .res_6_D => Sys2Proof.Machine.exec_res_6_D s
  | .res_6_E => Sys2Proof.Machine.exec_res_6_E s
  | .res_6_H => Sys2Proof.Machine.exec_res_6_H s
  | .res_6_L => Sys2Proof.Machine.exec_res_6_L s
  | .res_6_atHL => Sys2Proof.Machine.exec_res_6_atHL s
  | .res_6_A => Sys2Proof.Machine.exec_res_6_A s
  | .res_7_B => Sys2Proof.Machine.exec_res_7_B s
  | .res_7_C => Sys2Proof.Machine.exec_res_7_C s
  | .res_7_D => Sys2Proof.Machine.exec_res_7_D s
  | .res_7_E => Sys2Proof.Machine.exec_res_7_E s
  | .res_7_H => Sys2Proof.Machine.exec_res_7_H s
  | .res_7_L => Sys2Proof.Machine.exec_res_7_L s
  | .res_7_atHL => Sys2Proof.Machine.exec_res_7_atHL s
  | .res_7_A => Sys2Proof.Machine.exec_res_7_A s
  | .set_0_B => Sys2Proof.Machine.exec_set_0_B s
  | .set_0_C => Sys2Proof.Machine.exec_set_0_C s
  | .set_0_D => Sys2Proof.Machine.exec_set_0_D s
  | .set_0_E => Sys2Proof.Machine.exec_set_0_E s
  | .set_0_H => Sys2Proof.Machine.exec_set_0_H s
  | .set_0_L => Sys2Proof.Machine.exec_set_0_L s
  | .set_0_atHL => Sys2Proof.Machine.exec_set_0_atHL s
  | .set_0_A => Sys2Proof.Machine.exec_set_0_A s
  | .set_1_B => Sys2Proof.Machine.exec_set_1_B s
  | .set_1_C => Sys2Proof.Machine.exec_set_1_C s
  | .set_1_D => Sys2Proof.Machine.exec_set_1_D s
  | .set_1_E => Sys2Proof.Machine.exec_set_1_E s
  | .set_1_H => Sys2Proof.Machine.exec_set_1_H s
  | .set_1_L => Sys2Proof.Machine.exec_set_1_L s
  | .set_1_atHL => Sys2Proof.Machine.exec_set_1_atHL s
  | .set_1_A => Sys2Proof.Machine.exec_set_1_A s
  | .set_2_B => Sys2Proof.Machine.exec_set_2_B s
  | .set_2_C => Sys2Proof.Machine.exec_set_2_C s
  | .set_2_D => Sys2Proof.Machine.exec_set_2_D s
  | .set_2_E => Sys2Proof.Machine.exec_set_2_E s
  | .set_2_H => Sys2Proof.Machine.exec_set_2_H s
  | .set_2_L => Sys2Proof.Machine.exec_set_2_L s
  | .set_2_atHL => Sys2Proof.Machine.exec_set_2_atHL s
  | .set_2_A => Sys2Proof.Machine.exec_set_2_A s
  | .set_3_B => Sys2Proof.Machine.exec_set_3_B s
  | .set_3_C => Sys2Proof.Machine.exec_set_3_C s
  | .set_3_D => Sys2Proof.Machine.exec_set_3_D s
  | .set_3_E => Sys2Proof.Machine.exec_set_3_E s
  | .set_3_H => Sys2Proof.Machine.exec_set_3_H s
  | .set_3_L => Sys2Proof.Machine.exec_set_3_L s
  | .set_3_atHL => Sys2Proof.Machine.exec_set_3_atHL s
  | .set_3_A => Sys2Proof.Machine.exec_set_3_A s
  | .set_4_B => Sys2Proof.Machine.exec_set_4_B s
  | .set_4_C => Sys2Proof.Machine.exec_set_4_C s
  | .set_4_D => Sys2Proof.Machine.exec_set_4_D s
  | .set_4_E => Sys2Proof.Machine.exec_set_4_E s
  | .set_4_H => Sys2Proof.Machine.exec_set_4_H s
  | .set_4_L => Sys2Proof.Machine.exec_set_4_L s
  | .set_4_atHL => Sys2Proof.Machine.exec_set_4_atHL s
  | .set_4_A => Sys2Proof.Machine.exec_set_4_A s
  | .set_5_B => Sys2Proof.Machine.exec_set_5_B s
  | .set_5_C => Sys2Proof.Machine.exec_set_5_C s
  | .set_5_D => Sys2Proof.Machine.exec_set_5_D s
  | .set_5_E => Sys2Proof.Machine.exec_set_5_E s
  | .set_5_H => Sys2Proof.Machine.exec_set_5_H s
  | .set_5_L => Sys2Proof.Machine.exec_set_5_L s
  | .set_5_atHL => Sys2Proof.Machine.exec_set_5_atHL s
  | .set_5_A => Sys2Proof.Machine.exec_set_5_A s
  | .set_6_B => Sys2Proof.Machine.exec_set_6_B s
  | .set_6_C => Sys2Proof.Machine.exec_set_6_C s
  | .set_6_D => Sys2Proof.Machine.exec_set_6_D s
  | .set_6_E => Sys2Proof.Machine.exec_set_6_E s
  | .set_6_H => Sys2Proof.Machine.exec_set_6_H s
  | .set_6_L => Sys2Proof.Machine.exec_set_6_L s
  | .set_6_atHL => Sys2Proof.Machine.exec_set_6_atHL s
  | .set_6_A => Sys2Proof.Machine.exec_set_6_A s
  | .set_7_B => Sys2Proof.Machine.exec_set_7_B s
  | .set_7_C => Sys2Proof.Machine.exec_set_7_C s
  | .set_7_D => Sys2Proof.Machine.exec_set_7_D s
  | .set_7_E => Sys2Proof.Machine.exec_set_7_E s
  | .set_7_H => Sys2Proof.Machine.exec_set_7_H s
  | .set_7_L => Sys2Proof.Machine.exec_set_7_L s
  | .set_7_atHL => Sys2Proof.Machine.exec_set_7_atHL s
  | .set_7_A => Sys2Proof.Machine.exec_set_7_A s
  | .noni op => Sys2Proof.Machine.exec_noni op s
  | .in_B_atC => Sys2Proof.Machine.exec_in_B_atC s
  | .out_atC_B => Sys2Proof.Machine.exec_out_atC_B s
  | .sbc_HL_BC => Sys2Proof.Machine.exec_sbc_HL_BC s
  | .ld_atNn_BC nn => Sys2Proof.Machine.exec_ld_atNn_BC nn s
  | .neg y => Sys2Proof.Machine.exec_neg y s
  | .retn y => Sys2Proof.Machine.exec_retn y s
  | .im_0 y => Sys2Proof.Machine.exec_im_0 y s
  | .ld_I_A => Sys2Proof.Machine.exec_ld_I_A s
  | .in_C_atC => Sys2Proof.Machine.exec_in_C_atC s
  | .out_atC_C => Sys2Proof.Machine.exec_out_atC_C s
  | .adc_HL_BC => Sys2Proof.Machine.exec_adc_HL_BC s
  | .ld_BC_atNn nn => Sys2Proof.Machine.exec_ld_BC_atNn nn s
  | .reti => Sys2Proof.Machine.exec_reti s
  | .ld_R_A => Sys2Proof.Machine.exec_ld_R_A s
  | .in_D_atC => Sys2Proof.Machine.exec_in_D_atC s
  | .out_atC_D => Sys2Proof.Machine.exec_out_atC_D s
  | .sbc_HL_DE => Sys2Proof.Machine.exec_sbc_HL_DE s
  | .ld_atNn_DE nn => Sys2Proof.Machine.exec_ld_atNn_DE nn s
  | .im_1 y => Sys2Proof.Machine.exec_im_1 y s
  | .ld_A_I => Sys2Proof.Machine.exec_ld_A_I s
  | .in_E_atC => Sys2Proof.Machine.exec_in_E_atC s
  | .out_atC_E => Sys2Proof.Machine.exec_out_atC_E s
  | .adc_HL_DE => Sys2Proof.Machine.exec_adc_HL_DE s
  | .ld_DE_atNn nn => Sys2Proof.Machine.exec_ld_DE_atNn nn s
  | .im_2 y => Sys2Proof.Machine.exec_im_2 y s
  | .ld_A_R => Sys2Proof.Machine.exec_ld_A_R s
  | .in_H_atC => Sys2Proof.Machine.exec_in_H_atC s
  | .out_atC_H => Sys2Proof.Machine.exec_out_atC_H s
  | .sbc_HL_HL => Sys2Proof.Machine.exec_sbc_HL_HL s
  | .ld_atNn_HL_ed nn => Sys2Proof.Machine.exec_ld_atNn_HL_ed nn s
  | .rrd => Sys2Proof.Machine.exec_rrd s
  | .in_L_atC => Sys2Proof.Machine.exec_in_L_atC s
  | .out_atC_L => Sys2Proof.Machine.exec_out_atC_L s
  | .adc_HL_HL => Sys2Proof.Machine.exec_adc_HL_HL s
  | .ld_HL_atNn_ed nn => Sys2Proof.Machine.exec_ld_HL_atNn_ed nn s
  | .rld => Sys2Proof.Machine.exec_rld s
  | .in_F_atC => Sys2Proof.Machine.exec_in_F_atC s
  | .out_atC_0 => Sys2Proof.Machine.exec_out_atC_0 s
  | .sbc_HL_SP => Sys2Proof.Machine.exec_sbc_HL_SP s
  | .ld_atNn_SP nn => Sys2Proof.Machine.exec_ld_atNn_SP nn s
  | .in_A_atC => Sys2Proof.Machine.exec_in_A_atC s
  | .out_atC_A => Sys2Proof.Machine.exec_out_atC_A s
  | .adc_HL_SP => Sys2Proof.Machine.exec_adc_HL_SP s
  | .ld_SP_atNn nn => Sys2Proof.Machine.exec_ld_SP_atNn nn s
  | .ldi => Sys2Proof.Machine.exec_ldi s
  | .cpi => Sys2Proof.Machine.exec_cpi s
  | .ini => Sys2Proof.Machine.exec_ini s
  | .outi => Sys2Proof.Machine.exec_outi s
  | .ldd => Sys2Proof.Machine.exec_ldd s
  | .cpd => Sys2Proof.Machine.exec_cpd s
  | .ind => Sys2Proof.Machine.exec_ind s
  | .outd => Sys2Proof.Machine.exec_outd s
  | .ldir => Sys2Proof.Machine.exec_ldir s
  | .cpir => Sys2Proof.Machine.exec_cpir s
  | .inir => Sys2Proof.Machine.exec_inir s
  | .otir => Sys2Proof.Machine.exec_otir s
  | .lddr => Sys2Proof.Machine.exec_lddr s
  | .cpdr => Sys2Proof.Machine.exec_cpdr s
  | .indr => Sys2Proof.Machine.exec_indr s
  | .otdr => Sys2Proof.Machine.exec_otdr s
  | .add_IX_BC => Sys2Proof.Machine.exec_add_IX_BC s
  | .add_IX_DE => Sys2Proof.Machine.exec_add_IX_DE s
  | .ld_IX_nn nn => Sys2Proof.Machine.exec_ld_IX_nn nn s
  | .ld_atNn_IX nn => Sys2Proof.Machine.exec_ld_atNn_IX nn s
  | .inc_IX => Sys2Proof.Machine.exec_inc_IX s
  | .inc_IXH => Sys2Proof.Machine.exec_inc_IXH s
  | .dec_IXH => Sys2Proof.Machine.exec_dec_IXH s
  | .ld_IXH_n n => Sys2Proof.Machine.exec_ld_IXH_n n s
  | .add_IX_IX => Sys2Proof.Machine.exec_add_IX_IX s
  | .ld_IX_atNn nn => Sys2Proof.Machine.exec_ld_IX_atNn nn s
  | .dec_IX => Sys2Proof.Machine.exec_dec_IX s
  | .inc_IXL => Sys2Proof.Machine.exec_inc_IXL s
  | .dec_IXL => Sys2Proof.Machine.exec_dec_IXL s
  | .ld_IXL_n n => Sys2Proof.Machine.exec_ld_IXL_n n s
  | .inc_atIXd d => Sys2Proof.Machine.exec_inc_atIXd d s
  | .dec_atIXd d => Sys2Proof.Machine.exec_dec_atIXd d s
  | .ld_atIXd_n d n => Sys2Proof.Machine.exec_ld_atIXd_n d n s
  | .add_IX_SP => Sys2Proof.Machine.exec_add_IX_SP s
  | .ld_B_IXH => Sys2Proof.Machine.exec_ld_B_IXH s
  | .ld_B_IXL => Sys2Proof.Machine.exec_ld_B_IXL s
  | .ld_B_atIXd d => Sys2Proof.Machine.exec_ld_B_atIXd d s
  | .ld_C_IXH => Sys2Proof.Machine.exec_ld_C_IXH s
  | .ld_C_IXL => Sys2Proof.Machine.exec_ld_C_IXL s
  | .ld_C_atIXd d => Sys2Proof.Machine.exec_ld_C_atIXd d s
  | .ld_D_IXH => Sys2Proof.Machine.exec_ld_D_IXH s
  | .ld_D_IXL => Sys2Proof.Machine.exec_ld_D_IXL s
  | .ld_D_atIXd d => Sys2Proof.Machine.exec_ld_D_atIXd d s
  | .ld_E_IXH => Sys2Proof.Machine.exec_ld_E_IXH s
  | .ld_E_IXL => Sys2Proof.Machine.exec_ld_E_IXL s
  | .ld_E_atIXd d => Sys2Proof.Machine.exec_ld_E_atIXd d s
  | .ld_IXH_B => Sys2Proof.Machine.exec_ld_IXH_B s
  | .ld_IXH_C => Sys2Proof.Machine.exec_ld_IXH_C s
  | .ld_IXH_D => Sys2Proof.Machine.exec_ld_IXH_D s
  | .ld_IXH_E => Sys2Proof.Machine.exec_ld_IXH_E s
  | .ld_IXH_IXH => Sys2Proof.Machine.exec_ld_IXH_IXH s
  | .ld_IXH_IXL => Sys2Proof.Machine.exec_ld_IXH_IXL s
  | .ld_H_atIXd d => Sys2Proof.Machine.exec_ld_H_atIXd d s
  | .ld_IXH_A => Sys2Proof.Machine.exec_ld_IXH_A s
  | .ld_IXL_B => Sys2Proof.Machine.exec_ld_IXL_B s
  | .ld_IXL_C => Sys2Proof.Machine.exec_ld_IXL_C s
  | .ld_IXL_D => Sys2Proof.Machine.exec_ld_IXL_D s
  | .ld_IXL_E => Sys2Proof.Machine.exec_ld_IXL_E s
  | .ld_IXL_IXH => Sys2Proof.Machine.exec_ld_IXL_IXH s
  | .ld_IXL_IXL => Sys2Proof.Machine.exec_ld_IXL_IXL s
  | .ld_L_atIXd d => Sys2Proof.Machine.exec_ld_L_atIXd d s
  | .ld_IXL_A => Sys2Proof.Machine.exec_ld_IXL_A s
  | .ld_atIXd_B d => Sys2Proof.Machine.exec_ld_atIXd_B d s
  | .ld_atIXd_C d => Sys2Proof.Machine.exec_ld_atIXd_C d s
  | .ld_atIXd_D d => Sys2Proof.Machine.exec_ld_atIXd_D d s
  | .ld_atIXd_E d => Sys2Proof.Machine.exec_ld_atIXd_E d s
  | .ld_atIXd_H d => Sys2Proof.Machine.exec_ld_atIXd_H d s
  | .ld_atIXd_L d => Sys2Proof.Machine.exec_ld_atIXd_L d s
  | .ld_atIXd_A d => Sys2Proof.Machine.exec_ld_atIXd_A d s
  | .ld_A_IXH => Sys2Proof.Machine.exec_ld_A_IXH s
  | .ld_A_IXL => Sys2Proof.Machine.exec_ld_A_IXL s
  | .ld_A_atIXd d => Sys2Proof.Machine.exec_ld_A_atIXd d s
  | .add_A_IXH => Sys2Proof.Machine.exec_add_A_IXH s
  | .add_A_IXL => Sys2Proof.Machine.exec_add_A_IXL s
  | .add_A_atIXd d => Sys2Proof.Machine.exec_add_A_atIXd d s
  | .adc_A_IXH => Sys2Proof.Machine.exec_adc_A_IXH s
  | .adc_A_IXL => Sys2Proof.Machine.exec_adc_A_IXL s
  | .adc_A_atIXd d => Sys2Proof.Machine.exec_adc_A_atIXd d s
  | .sub_IXH => Sys2Proof.Machine.exec_sub_IXH s
  | .sub_IXL => Sys2Proof.Machine.exec_sub_IXL s
  | .sub_atIXd d => Sys2Proof.Machine.exec_sub_atIXd d s
  | .sbc_A_IXH => Sys2Proof.Machine.exec_sbc_A_IXH s
  | .sbc_A_IXL => Sys2Proof.Machine.exec_sbc_A_IXL s
  | .sbc_A_atIXd d => Sys2Proof.Machine.exec_sbc_A_atIXd d s
  | .and_IXH => Sys2Proof.Machine.exec_and_IXH s
  | .and_IXL => Sys2Proof.Machine.exec_and_IXL s
  | .and_atIXd d => Sys2Proof.Machine.exec_and_atIXd d s
  | .xor_IXH => Sys2Proof.Machine.exec_xor_IXH s
  | .xor_IXL => Sys2Proof.Machine.exec_xor_IXL s
  | .xor_atIXd d => Sys2Proof.Machine.exec_xor_atIXd d s
  | .or_IXH => Sys2Proof.Machine.exec_or_IXH s
  | .or_IXL => Sys2Proof.Machine.exec_or_IXL s
  | .or_atIXd d => Sys2Proof.Machine.exec_or_atIXd d s
  | .cp_IXH => Sys2Proof.Machine.exec_cp_IXH s
  | .cp_IXL => Sys2Proof.Machine.exec_cp_IXL s
  | .cp_atIXd d => Sys2Proof.Machine.exec_cp_atIXd d s
  | .prefixIX_overIX => Sys2Proof.Machine.exec_prefixIX_overIX s
  | .pop_IX => Sys2Proof.Machine.exec_pop_IX s
  | .ex_atSP_IX => Sys2Proof.Machine.exec_ex_atSP_IX s
  | .push_IX => Sys2Proof.Machine.exec_push_IX s
  | .jp_atIX => Sys2Proof.Machine.exec_jp_atIX s
  | .prefixIX_ED e => Sys2Proof.Machine.exec_prefixIX_ED e s
  | .ld_SP_IX => Sys2Proof.Machine.exec_ld_SP_IX s
  | .prefixIY_overIX => Sys2Proof.Machine.exec_prefixIY_overIX s
  | .add_IY_BC => Sys2Proof.Machine.exec_add_IY_BC s
  | .add_IY_DE => Sys2Proof.Machine.exec_add_IY_DE s
  | .ld_IY_nn nn => Sys2Proof.Machine.exec_ld_IY_nn nn s
  | .ld_atNn_IY nn => Sys2Proof.Machine.exec_ld_atNn_IY nn s
  | .inc_IY => Sys2Proof.Machine.exec_inc_IY s
  | .inc_IYH => Sys2Proof.Machine.exec_inc_IYH s
  | .dec_IYH => Sys2Proof.Machine.exec_dec_IYH s
  | .ld_IYH_n n => Sys2Proof.Machine.exec_ld_IYH_n n s
  | .add_IY_IY => Sys2Proof.Machine.exec_add_IY_IY s
  | .ld_IY_atNn nn => Sys2Proof.Machine.exec_ld_IY_atNn nn s
  | .dec_IY => Sys2Proof.Machine.exec_dec_IY s
  | .inc_IYL => Sys2Proof.Machine.exec_inc_IYL s
  | .dec_IYL => Sys2Proof.Machine.exec_dec_IYL s
  | .ld_IYL_n n => Sys2Proof.Machine.exec_ld_IYL_n n s
  | .inc_atIYd d => Sys2Proof.Machine.exec_inc_atIYd d s
  | .dec_atIYd d => Sys2Proof.Machine.exec_dec_atIYd d s
  | .ld_atIYd_n d n => Sys2Proof.Machine.exec_ld_atIYd_n d n s
  | .add_IY_SP => Sys2Proof.Machine.exec_add_IY_SP s
  | .ld_B_IYH => Sys2Proof.Machine.exec_ld_B_IYH s
  | .ld_B_IYL => Sys2Proof.Machine.exec_ld_B_IYL s
  | .ld_B_atIYd d => Sys2Proof.Machine.exec_ld_B_atIYd d s
  | .ld_C_IYH => Sys2Proof.Machine.exec_ld_C_IYH s
  | .ld_C_IYL => Sys2Proof.Machine.exec_ld_C_IYL s
  | .ld_C_atIYd d => Sys2Proof.Machine.exec_ld_C_atIYd d s
  | .ld_D_IYH => Sys2Proof.Machine.exec_ld_D_IYH s
  | .ld_D_IYL => Sys2Proof.Machine.exec_ld_D_IYL s
  | .ld_D_atIYd d => Sys2Proof.Machine.exec_ld_D_atIYd d s
  | .ld_E_IYH => Sys2Proof.Machine.exec_ld_E_IYH s
  | .ld_E_IYL => Sys2Proof.Machine.exec_ld_E_IYL s
  | .ld_E_atIYd d => Sys2Proof.Machine.exec_ld_E_atIYd d s
  | .ld_IYH_B => Sys2Proof.Machine.exec_ld_IYH_B s
  | .ld_IYH_C => Sys2Proof.Machine.exec_ld_IYH_C s
  | .ld_IYH_D => Sys2Proof.Machine.exec_ld_IYH_D s
  | .ld_IYH_E => Sys2Proof.Machine.exec_ld_IYH_E s
  | .ld_IYH_IYH => Sys2Proof.Machine.exec_ld_IYH_IYH s
  | .ld_IYH_IYL => Sys2Proof.Machine.exec_ld_IYH_IYL s
  | .ld_H_atIYd d => Sys2Proof.Machine.exec_ld_H_atIYd d s
  | .ld_IYH_A => Sys2Proof.Machine.exec_ld_IYH_A s
  | .ld_IYL_B => Sys2Proof.Machine.exec_ld_IYL_B s
  | .ld_IYL_C => Sys2Proof.Machine.exec_ld_IYL_C s
  | .ld_IYL_D => Sys2Proof.Machine.exec_ld_IYL_D s
  | .ld_IYL_E => Sys2Proof.Machine.exec_ld_IYL_E s
  | .ld_IYL_IYH => Sys2Proof.Machine.exec_ld_IYL_IYH s
  | .ld_IYL_IYL => Sys2Proof.Machine.exec_ld_IYL_IYL s
  | .ld_L_atIYd d => Sys2Proof.Machine.exec_ld_L_atIYd d s
  | .ld_IYL_A => Sys2Proof.Machine.exec_ld_IYL_A s
  | .ld_atIYd_B d => Sys2Proof.Machine.exec_ld_atIYd_B d s
  | .ld_atIYd_C d => Sys2Proof.Machine.exec_ld_atIYd_C d s
  | .ld_atIYd_D d => Sys2Proof.Machine.exec_ld_atIYd_D d s
  | .ld_atIYd_E d => Sys2Proof.Machine.exec_ld_atIYd_E d s
  | .ld_atIYd_H d => Sys2Proof.Machine.exec_ld_atIYd_H d s
  | .ld_atIYd_L d => Sys2Proof.Machine.exec_ld_atIYd_L d s
  | .ld_atIYd_A d => Sys2Proof.Machine.exec_ld_atIYd_A d s
  | .ld_A_IYH => Sys2Proof.Machine.exec_ld_A_IYH s
  | .ld_A_IYL => Sys2Proof.Machine.exec_ld_A_IYL s
  | .ld_A_atIYd d => Sys2Proof.Machine.exec_ld_A_atIYd d s
  | .add_A_IYH => Sys2Proof.Machine.exec_add_A_IYH s
  | .add_A_IYL => Sys2Proof.Machine.exec_add_A_IYL s
  | .add_A_atIYd d => Sys2Proof.Machine.exec_add_A_atIYd d s
  | .adc_A_IYH => Sys2Proof.Machine.exec_adc_A_IYH s
  | .adc_A_IYL => Sys2Proof.Machine.exec_adc_A_IYL s
  | .adc_A_atIYd d => Sys2Proof.Machine.exec_adc_A_atIYd d s
  | .sub_IYH => Sys2Proof.Machine.exec_sub_IYH s
  | .sub_IYL => Sys2Proof.Machine.exec_sub_IYL s
  | .sub_atIYd d => Sys2Proof.Machine.exec_sub_atIYd d s
  | .sbc_A_IYH => Sys2Proof.Machine.exec_sbc_A_IYH s
  | .sbc_A_IYL => Sys2Proof.Machine.exec_sbc_A_IYL s
  | .sbc_A_atIYd d => Sys2Proof.Machine.exec_sbc_A_atIYd d s
  | .and_IYH => Sys2Proof.Machine.exec_and_IYH s
  | .and_IYL => Sys2Proof.Machine.exec_and_IYL s
  | .and_atIYd d => Sys2Proof.Machine.exec_and_atIYd d s
  | .xor_IYH => Sys2Proof.Machine.exec_xor_IYH s
  | .xor_IYL => Sys2Proof.Machine.exec_xor_IYL s
  | .xor_atIYd d => Sys2Proof.Machine.exec_xor_atIYd d s
  | .or_IYH => Sys2Proof.Machine.exec_or_IYH s
  | .or_IYL => Sys2Proof.Machine.exec_or_IYL s
  | .or_atIYd d => Sys2Proof.Machine.exec_or_atIYd d s
  | .cp_IYH => Sys2Proof.Machine.exec_cp_IYH s
  | .cp_IYL => Sys2Proof.Machine.exec_cp_IYL s
  | .cp_atIYd d => Sys2Proof.Machine.exec_cp_atIYd d s
  | .prefixIX_overIY => Sys2Proof.Machine.exec_prefixIX_overIY s
  | .pop_IY => Sys2Proof.Machine.exec_pop_IY s
  | .ex_atSP_IY => Sys2Proof.Machine.exec_ex_atSP_IY s
  | .push_IY => Sys2Proof.Machine.exec_push_IY s
  | .jp_atIY => Sys2Proof.Machine.exec_jp_atIY s
  | .prefixIY_ED e => Sys2Proof.Machine.exec_prefixIY_ED e s
  | .ld_SP_IY => Sys2Proof.Machine.exec_ld_SP_IY s
  | .prefixIY_overIY => Sys2Proof.Machine.exec_prefixIY_overIY s
  | .rlc_atIXd_B d => Sys2Proof.Machine.exec_rlc_atIXd_B d s
  | .rlc_atIXd_C d => Sys2Proof.Machine.exec_rlc_atIXd_C d s
  | .rlc_atIXd_D d => Sys2Proof.Machine.exec_rlc_atIXd_D d s
  | .rlc_atIXd_E d => Sys2Proof.Machine.exec_rlc_atIXd_E d s
  | .rlc_atIXd_H d => Sys2Proof.Machine.exec_rlc_atIXd_H d s
  | .rlc_atIXd_L d => Sys2Proof.Machine.exec_rlc_atIXd_L d s
  | .rlc_atIXd d => Sys2Proof.Machine.exec_rlc_atIXd d s
  | .rlc_atIXd_A d => Sys2Proof.Machine.exec_rlc_atIXd_A d s
  | .rrc_atIXd_B d => Sys2Proof.Machine.exec_rrc_atIXd_B d s
  | .rrc_atIXd_C d => Sys2Proof.Machine.exec_rrc_atIXd_C d s
  | .rrc_atIXd_D d => Sys2Proof.Machine.exec_rrc_atIXd_D d s
  | .rrc_atIXd_E d => Sys2Proof.Machine.exec_rrc_atIXd_E d s
  | .rrc_atIXd_H d => Sys2Proof.Machine.exec_rrc_atIXd_H d s
  | .rrc_atIXd_L d => Sys2Proof.Machine.exec_rrc_atIXd_L d s
  | .rrc_atIXd d => Sys2Proof.Machine.exec_rrc_atIXd d s
  | .rrc_atIXd_A d => Sys2Proof.Machine.exec_rrc_atIXd_A d s
  | .rl_atIXd_B d => Sys2Proof.Machine.exec_rl_atIXd_B d s
  | .rl_atIXd_C d => Sys2Proof.Machine.exec_rl_atIXd_C d s
  | .rl_atIXd_D d => Sys2Proof.Machine.exec_rl_atIXd_D d s
  | .rl_atIXd_E d => Sys2Proof.Machine.exec_rl_atIXd_E d s
  | .rl_atIXd_H d => Sys2Proof.Machine.exec_rl_atIXd_H d s
  | .rl_atIXd_L d => Sys2Proof.Machine.exec_rl_atIXd_L d s
  | .rl_atIXd d => Sys2Proof.Machine.exec_rl_atIXd d s
  | .rl_atIXd_A d => Sys2Proof.Machine.exec_rl_atIXd_A d s
  | .rr_atIXd_B d => Sys2Proof.Machine.exec_rr_atIXd_B d s
  | .rr_atIXd_C d => Sys2Proof.Machine.exec_rr_atIXd_C d s
  | .rr_atIXd_D d => Sys2Proof.Machine.exec_rr_atIXd_D d s
  | .rr_atIXd_E d => Sys2Proof.Machine.exec_rr_atIXd_E d s
  | .rr_atIXd_H d => Sys2Proof.Machine.exec_rr_atIXd_H d s
  | .rr_atIXd_L d => Sys2Proof.Machine.exec_rr_atIXd_L d s
  | .rr_atIXd d => Sys2Proof.Machine.exec_rr_atIXd d s
  | .rr_atIXd_A d => Sys2Proof.Machine.exec_rr_atIXd_A d s
  | .sla_atIXd_B d => Sys2Proof.Machine.exec_sla_atIXd_B d s
  | .sla_atIXd_C d => Sys2Proof.Machine.exec_sla_atIXd_C d s
  | .sla_atIXd_D d => Sys2Proof.Machine.exec_sla_atIXd_D d s
  | .sla_atIXd_E d => Sys2Proof.Machine.exec_sla_atIXd_E d s
  | .sla_atIXd_H d => Sys2Proof.Machine.exec_sla_atIXd_H d s
  | .sla_atIXd_L d => Sys2Proof.Machine.exec_sla_atIXd_L d s
  | .sla_atIXd d => Sys2Proof.Machine.exec_sla_atIXd d s
  | .sla_atIXd_A d => Sys2Proof.Machine.exec_sla_atIXd_A d s
  | .sra_atIXd_B d => Sys2Proof.Machine.exec_sra_atIXd_B d s
  | .sra_atIXd_C d => Sys2Proof.Machine.exec_sra_atIXd_C d s
  | .sra_atIXd_D d => Sys2Proof.Machine.exec_sra_atIXd_D d s
  | .sra_atIXd_E d => Sys2Proof.Machine.exec_sra_atIXd_E d s
  | .sra_atIXd_H d => Sys2Proof.Machine.exec_sra_atIXd_H d s
  | .sra_atIXd_L d => Sys2Proof.Machine.exec_sra_atIXd_L d s
  | .sra_atIXd d => Sys2Proof.Machine.exec_sra_atIXd d s
  | .sra_atIXd_A d => Sys2Proof.Machine.exec_sra_atIXd_A d s
  | .sll_atIXd_B d => Sys2Proof.Machine.exec_sll_atIXd_B d s
  | .sll_atIXd_C d => Sys2Proof.Machine.exec_sll_atIXd_C d s
  | .sll_atIXd_D d => Sys2Proof.Machine.exec_sll_atIXd_D d s
  | .sll_atIXd_E d => Sys2Proof.Machine.exec_sll_atIXd_E d s
  | .sll_atIXd_H d => Sys2Proof.Machine.exec_sll_atIXd_H d s
  | .sll_atIXd_L d => Sys2Proof.Machine.exec_sll_atIXd_L d s
  | .sll_atIXd d => Sys2Proof.Machine.exec_sll_atIXd d s
  | .sll_atIXd_A d => Sys2Proof.Machine.exec_sll_atIXd_A d s
  | .srl_atIXd_B d => Sys2Proof.Machine.exec_srl_atIXd_B d s
  | .srl_atIXd_C d => Sys2Proof.Machine.exec_srl_atIXd_C d s
  | .srl_atIXd_D d => Sys2Proof.Machine.exec_srl_atIXd_D d s
  | .srl_atIXd_E d => Sys2Proof.Machine.exec_srl_atIXd_E d s
  | .srl_atIXd_H d => Sys2Proof.Machine.exec_srl_atIXd_H d s
  | .srl_atIXd_L d => Sys2Proof.Machine.exec_srl_atIXd_L d s
  | .srl_atIXd d => Sys2Proof.Machine.exec_srl_atIXd d s
  | .srl_atIXd_A d => Sys2Proof.Machine.exec_srl_atIXd_A d s
  | .bit_0_atIXd d z => Sys2Proof.Machine.exec_bit_0_atIXd d z s
  | .bit_1_atIXd d z => Sys2Proof.Machine.exec_bit_1_atIXd d z s
  | .bit_2_atIXd d z => Sys2Proof.Machine.exec_bit_2_atIXd d z s
  | .bit_3_atIXd d z => Sys2Proof.Machine.exec_bit_3_atIXd d z s
  | .bit_4_atIXd d z => Sys2Proof.Machine.exec_bit_4_atIXd d z s
  | .bit_5_atIXd d z => Sys2Proof.Machine.exec_bit_5_atIXd d z s
  | .bit_6_atIXd d z => Sys2Proof.Machine.exec_bit_6_atIXd d z s
  | .bit_7_atIXd d z => Sys2Proof.Machine.exec_bit_7_atIXd d z s
  | .res_0_atIXd_B d => Sys2Proof.Machine.exec_res_0_atIXd_B d s
  | .res_0_atIXd_C d => Sys2Proof.Machine.exec_res_0_atIXd_C d s
  | .res_0_atIXd_D d => Sys2Proof.Machine.exec_res_0_atIXd_D d s
  | .res_0_atIXd_E d => Sys2Proof.Machine.exec_res_0_atIXd_E d s
  | .res_0_atIXd_H d => Sys2Proof.Machine.exec_res_0_atIXd_H d s
  | .res_0_atIXd_L d => Sys2Proof.Machine.exec_res_0_atIXd_L d s
  | .res_0_atIXd d => Sys2Proof.Machine.exec_res_0_atIXd d s
  | .res_0_atIXd_A d => Sys2Proof.Machine.exec_res_0_atIXd_A d s
  | .res_1_atIXd_B d => Sys2Proof.Machine.exec_res_1_atIXd_B d s
  | .res_1_atIXd_C d => Sys2Proof.Machine.exec_res_1_atIXd_C d s
  | .res_1_atIXd_D d => Sys2Proof.Machine.exec_res_1_atIXd_D d s
  | .res_1_atIXd_E d => Sys2Proof.Machine.exec_res_1_atIXd_E d s
  | .res_1_atIXd_H d => Sys2Proof.Machine.exec_res_1_atIXd_H d s
  | .res_1_atIXd_L d => Sys2Proof.Machine.exec_res_1_atIXd_L d s
  | .res_1_atIXd d => Sys2Proof.Machine.exec_res_1_atIXd d s
  | .res_1_atIXd_A d => Sys2Proof.Machine.exec_res_1_atIXd_A d s
  | .res_2_atIXd_B d => Sys2Proof.Machine.exec_res_2_atIXd_B d s
  | .res_2_atIXd_C d => Sys2Proof.Machine.exec_res_2_atIXd_C d s
  | .res_2_atIXd_D d => Sys2Proof.Machine.exec_res_2_atIXd_D d s
  | .res_2_atIXd_E d => Sys2Proof.Machine.exec_res_2_atIXd_E d s
  | .res_2_atIXd_H d => Sys2Proof.Machine.exec_res_2_atIXd_H d s
  | .res_2_atIXd_L d => Sys2Proof.Machine.exec_res_2_atIXd_L d s
  | .res_2_atIXd d => Sys2Proof.Machine.exec_res_2_atIXd d s
  | .res_2_atIXd_A d => Sys2Proof.Machine.exec_res_2_atIXd_A d s
  | .res_3_atIXd_B d => Sys2Proof.Machine.exec_res_3_atIXd_B d s
  | .res_3_atIXd_C d => Sys2Proof.Machine.exec_res_3_atIXd_C d s
  | .res_3_atIXd_D d => Sys2Proof.Machine.exec_res_3_atIXd_D d s
  | .res_3_atIXd_E d => Sys2Proof.Machine.exec_res_3_atIXd_E d s
  | .res_3_atIXd_H d => Sys2Proof.Machine.exec_res_3_atIXd_H d s
  | .res_3_atIXd_L d => Sys2Proof.Machine.exec_res_3_atIXd_L d s
  | .res_3_atIXd d => Sys2Proof.Machine.exec_res_3_atIXd d s
  | .res_3_atIXd_A d => Sys2Proof.Machine.exec_res_3_atIXd_A d s
  | .res_4_atIXd_B d => Sys2Proof.Machine.exec_res_4_atIXd_B d s
  | .res_4_atIXd_C d => Sys2Proof.Machine.exec_res_4_atIXd_C d s
  | .res_4_atIXd_D d => Sys2Proof.Machine.exec_res_4_atIXd_D d s
  | .res_4_atIXd_E d => Sys2Proof.Machine.exec_res_4_atIXd_E d s
  | .res_4_atIXd_H d => Sys2Proof.Machine.exec_res_4_atIXd_H d s
  | .res_4_atIXd_L d => Sys2Proof.Machine.exec_res_4_atIXd_L d s
  | .res_4_atIXd d => Sys2Proof.Machine.exec_res_4_atIXd d s
  | .res_4_atIXd_A d => Sys2Proof.Machine.exec_res_4_atIXd_A d s
  | .res_5_atIXd_B d => Sys2Proof.Machine.exec_res_5_atIXd_B d s
  | .res_5_atIXd_C d => Sys2Proof.Machine.exec_res_5_atIXd_C d s
  | .res_5_atIXd_D d => Sys2Proof.Machine.exec_res_5_atIXd_D d s
  | .res_5_atIXd_E d => Sys2Proof.Machine.exec_res_5_atIXd_E d s
  | .res_5_atIXd_H d => Sys2Proof.Machine.exec_res_5_atIXd_H d s
  | .res_5_atIXd_L d => Sys2Proof.Machine.exec_res_5_atIXd_L d s
  | .res_5_atIXd d => Sys2Proof.Machine.exec_res_5_atIXd d s
  | .res_5_atIXd_A d => Sys2Proof.Machine.exec_res_5_atIXd_A d s
  | .res_6_atIXd_B d => Sys2Proof.Machine.exec_res_6_atIXd_B d s
  | .res_6_atIXd_C d => Sys2Proof.Machine.exec_res_6_atIXd_C d s
  | .res_6_atIXd_D d => Sys2Proof.Machine.exec_res_6_atIXd_D d s
  | .res_6_atIXd_E d => Sys2Proof.Machine.exec_res_6_atIXd_E d s
  | .res_6_atIXd_H d => Sys2Proof.Machine.exec_res_6_atIXd_H d s
  | .res_6_atIXd_L d => Sys2Proof.Machine.exec_res_6_atIXd_L d s
  | .res_6_atIXd d => Sys2Proof.Machine.exec_res_6_atIXd d s
  | .res_6_atIXd_A d => Sys2Proof.Machine.exec_res_6_atIXd_A d s
  | .res_7_atIXd_B d => Sys2Proof.Machine.exec_res_7_atIXd_B d s
  | .res_7_atIXd_C d => Sys2Proof.Machine.exec_res_7_atIXd_C d s
  | .res_7_atIXd_D d => Sys2Proof.Machine.exec_res_7_atIXd_D d s
  | .res_7_atIXd_E d => Sys2Proof.Machine.exec_res_7_atIXd_E d s
  | .res_7_atIXd_H d => Sys2Proof.Machine.exec_res_7_atIXd_H d s
  | .res_7_atIXd_L d => Sys2Proof.Machine.exec_res_7_atIXd_L d s
  | .res_7_atIXd d => Sys2Proof.Machine.exec_res_7_atIXd d s
  | .res_7_atIXd_A d => Sys2Proof.Machine.exec_res_7_atIXd_A d s
  | .set_0_atIXd_B d => Sys2Proof.Machine.exec_set_0_atIXd_B d s
  | .set_0_atIXd_C d => Sys2Proof.Machine.exec_set_0_atIXd_C d s
  | .set_0_atIXd_D d => Sys2Proof.Machine.exec_set_0_atIXd_D d s
  | .set_0_atIXd_E d => Sys2Proof.Machine.exec_set_0_atIXd_E d s
  | .set_0_atIXd_H d => Sys2Proof.Machine.exec_set_0_atIXd_H d s
  | .set_0_atIXd_L d => Sys2Proof.Machine.exec_set_0_atIXd_L d s
  | .set_0_atIXd d => Sys2Proof.Machine.exec_set_0_atIXd d s
  | .set_0_atIXd_A d => Sys2Proof.Machine.exec_set_0_atIXd_A d s
  | .set_1_atIXd_B d => Sys2Proof.Machine.exec_set_1_atIXd_B d s
  | .set_1_atIXd_C d => Sys2Proof.Machine.exec_set_1_atIXd_C d s
  | .set_1_atIXd_D d => Sys2Proof.Machine.exec_set_1_atIXd_D d s
  | .set_1_atIXd_E d => Sys2Proof.Machine.exec_set_1_atIXd_E d s
  | .set_1_atIXd_H d => Sys2Proof.Machine.exec_set_1_atIXd_H d s
  | .set_1_atIXd_L d => Sys2Proof.Machine.exec_set_1_atIXd_L d s
  | .set_1_atIXd d => Sys2Proof.Machine.exec_set_1_atIXd d s
  | .set_1_atIXd_A d => Sys2Proof.Machine.exec_set_1_atIXd_A d s
  | .set_2_atIXd_B d => Sys2Proof.Machine.exec_set_2_atIXd_B d s
  | .set_2_atIXd_C d => Sys2Proof.Machine.exec_set_2_atIXd_C d s
  | .set_2_atIXd_D d => Sys2Proof.Machine.exec_set_2_atIXd_D d s
  | .set_2_atIXd_E d => Sys2Proof.Machine.exec_set_2_atIXd_E d s
  | .set_2_atIXd_H d => Sys2Proof.Machine.exec_set_2_atIXd_H d s
  | .set_2_atIXd_L d => Sys2Proof.Machine.exec_set_2_atIXd_L d s
  | .set_2_atIXd d => Sys2Proof.Machine.exec_set_2_atIXd d s
  | .set_2_atIXd_A d => Sys2Proof.Machine.exec_set_2_atIXd_A d s
  | .set_3_atIXd_B d => Sys2Proof.Machine.exec_set_3_atIXd_B d s
  | .set_3_atIXd_C d => Sys2Proof.Machine.exec_set_3_atIXd_C d s
  | .set_3_atIXd_D d => Sys2Proof.Machine.exec_set_3_atIXd_D d s
  | .set_3_atIXd_E d => Sys2Proof.Machine.exec_set_3_atIXd_E d s
  | .set_3_atIXd_H d => Sys2Proof.Machine.exec_set_3_atIXd_H d s
  | .set_3_atIXd_L d => Sys2Proof.Machine.exec_set_3_atIXd_L d s
  | .set_3_atIXd d => Sys2Proof.Machine.exec_set_3_atIXd d s
  | .set_3_atIXd_A d => Sys2Proof.Machine.exec_set_3_atIXd_A d s
  | .set_4_atIXd_B d => Sys2Proof.Machine.exec_set_4_atIXd_B d s
  | .set_4_atIXd_C d => Sys2Proof.Machine.exec_set_4_atIXd_C d s
  | .set_4_atIXd_D d => Sys2Proof.Machine.exec_set_4_atIXd_D d s
  | .set_4_atIXd_E d => Sys2Proof.Machine.exec_set_4_atIXd_E d s
  | .set_4_atIXd_H d => Sys2Proof.Machine.exec_set_4_atIXd_H d s
  | .set_4_atIXd_L d => Sys2Proof.Machine.exec_set_4_atIXd_L d s
  | .set_4_atIXd d => Sys2Proof.Machine.exec_set_4_atIXd d s
  | .set_4_atIXd_A d => Sys2Proof.Machine.exec_set_4_atIXd_A d s
  | .set_5_atIXd_B d => Sys2Proof.Machine.exec_set_5_atIXd_B d s
  | .set_5_atIXd_C d => Sys2Proof.Machine.exec_set_5_atIXd_C d s
  | .set_5_atIXd_D d => Sys2Proof.Machine.exec_set_5_atIXd_D d s
  | .set_5_atIXd_E d => Sys2Proof.Machine.exec_set_5_atIXd_E d s
  | .set_5_atIXd_H d => Sys2Proof.Machine.exec_set_5_atIXd_H d s
  | .set_5_atIXd_L d => Sys2Proof.Machine.exec_set_5_atIXd_L d s
  | .set_5_atIXd d => Sys2Proof.Machine.exec_set_5_atIXd d s
  | .set_5_atIXd_A d => Sys2Proof.Machine.exec_set_5_atIXd_A d s
  | .set_6_atIXd_B d => Sys2Proof.Machine.exec_set_6_atIXd_B d s
  | .set_6_atIXd_C d => Sys2Proof.Machine.exec_set_6_atIXd_C d s
  | .set_6_atIXd_D d => Sys2Proof.Machine.exec_set_6_atIXd_D d s
  | .set_6_atIXd_E d => Sys2Proof.Machine.exec_set_6_atIXd_E d s
  | .set_6_atIXd_H d => Sys2Proof.Machine.exec_set_6_atIXd_H d s
  | .set_6_atIXd_L d => Sys2Proof.Machine.exec_set_6_atIXd_L d s
  | .set_6_atIXd d => Sys2Proof.Machine.exec_set_6_atIXd d s
  | .set_6_atIXd_A d => Sys2Proof.Machine.exec_set_6_atIXd_A d s
  | .set_7_atIXd_B d => Sys2Proof.Machine.exec_set_7_atIXd_B d s
  | .set_7_atIXd_C d => Sys2Proof.Machine.exec_set_7_atIXd_C d s
  | .set_7_atIXd_D d => Sys2Proof.Machine.exec_set_7_atIXd_D d s
  | .set_7_atIXd_E d => Sys2Proof.Machine.exec_set_7_atIXd_E d s
  | .set_7_atIXd_H d => Sys2Proof.Machine.exec_set_7_atIXd_H d s
  | .set_7_atIXd_L d => Sys2Proof.Machine.exec_set_7_atIXd_L d s
  | .set_7_atIXd d => Sys2Proof.Machine.exec_set_7_atIXd d s
  | .set_7_atIXd_A d => Sys2Proof.Machine.exec_set_7_atIXd_A d s
  | .rlc_atIYd_B d => Sys2Proof.Machine.exec_rlc_atIYd_B d s
  | .rlc_atIYd_C d => Sys2Proof.Machine.exec_rlc_atIYd_C d s
  | .rlc_atIYd_D d => Sys2Proof.Machine.exec_rlc_atIYd_D d s
  | .rlc_atIYd_E d => Sys2Proof.Machine.exec_rlc_atIYd_E d s
  | .rlc_atIYd_H d => Sys2Proof.Machine.exec_rlc_atIYd_H d s
  | .rlc_atIYd_L d => Sys2Proof.Machine.exec_rlc_atIYd_L d s
  | .rlc_atIYd d => Sys2Proof.Machine.exec_rlc_atIYd d s
  | .rlc_atIYd_A d => Sys2Proof.Machine.exec_rlc_atIYd_A d s
  | .rrc_atIYd_B d => Sys2Proof.Machine.exec_rrc_atIYd_B d s
  | .rrc_atIYd_C d => Sys2Proof.Machine.exec_rrc_atIYd_C d s
  | .rrc_atIYd_D d => Sys2Proof.Machine.exec_rrc_atIYd_D d s
  | .rrc_atIYd_E d => Sys2Proof.Machine.exec_rrc_atIYd_E d s
  | .rrc_atIYd_H d => Sys2Proof.Machine.exec_rrc_atIYd_H d s
  | .rrc_atIYd_L d => Sys2Proof.Machine.exec_rrc_atIYd_L d s
  | .rrc_atIYd d => Sys2Proof.Machine.exec_rrc_atIYd d s
  | .rrc_atIYd_A d => Sys2Proof.Machine.exec_rrc_atIYd_A d s
  | .rl_atIYd_B d => Sys2Proof.Machine.exec_rl_atIYd_B d s
  | .rl_atIYd_C d => Sys2Proof.Machine.exec_rl_atIYd_C d s
  | .rl_atIYd_D d => Sys2Proof.Machine.exec_rl_atIYd_D d s
  | .rl_atIYd_E d => Sys2Proof.Machine.exec_rl_atIYd_E d s
  | .rl_atIYd_H d => Sys2Proof.Machine.exec_rl_atIYd_H d s
  | .rl_atIYd_L d => Sys2Proof.Machine.exec_rl_atIYd_L d s
  | .rl_atIYd d => Sys2Proof.Machine.exec_rl_atIYd d s
  | .rl_atIYd_A d => Sys2Proof.Machine.exec_rl_atIYd_A d s
  | .rr_atIYd_B d => Sys2Proof.Machine.exec_rr_atIYd_B d s
  | .rr_atIYd_C d => Sys2Proof.Machine.exec_rr_atIYd_C d s
  | .rr_atIYd_D d => Sys2Proof.Machine.exec_rr_atIYd_D d s
  | .rr_atIYd_E d => Sys2Proof.Machine.exec_rr_atIYd_E d s
  | .rr_atIYd_H d => Sys2Proof.Machine.exec_rr_atIYd_H d s
  | .rr_atIYd_L d => Sys2Proof.Machine.exec_rr_atIYd_L d s
  | .rr_atIYd d => Sys2Proof.Machine.exec_rr_atIYd d s
  | .rr_atIYd_A d => Sys2Proof.Machine.exec_rr_atIYd_A d s
  | .sla_atIYd_B d => Sys2Proof.Machine.exec_sla_atIYd_B d s
  | .sla_atIYd_C d => Sys2Proof.Machine.exec_sla_atIYd_C d s
  | .sla_atIYd_D d => Sys2Proof.Machine.exec_sla_atIYd_D d s
  | .sla_atIYd_E d => Sys2Proof.Machine.exec_sla_atIYd_E d s
  | .sla_atIYd_H d => Sys2Proof.Machine.exec_sla_atIYd_H d s
  | .sla_atIYd_L d => Sys2Proof.Machine.exec_sla_atIYd_L d s
  | .sla_atIYd d => Sys2Proof.Machine.exec_sla_atIYd d s
  | .sla_atIYd_A d => Sys2Proof.Machine.exec_sla_atIYd_A d s
  | .sra_atIYd_B d => Sys2Proof.Machine.exec_sra_atIYd_B d s
  | .sra_atIYd_C d => Sys2Proof.Machine.exec_sra_atIYd_C d s
  | .sra_atIYd_D d => Sys2Proof.Machine.exec_sra_atIYd_D d s
  | .sra_atIYd_E d => Sys2Proof.Machine.exec_sra_atIYd_E d s
  | .sra_atIYd_H d => Sys2Proof.Machine.exec_sra_atIYd_H d s
  | .sra_atIYd_L d => Sys2Proof.Machine.exec_sra_atIYd_L d s
  | .sra_atIYd d => Sys2Proof.Machine.exec_sra_atIYd d s
  | .sra_atIYd_A d => Sys2Proof.Machine.exec_sra_atIYd_A d s
  | .sll_atIYd_B d => Sys2Proof.Machine.exec_sll_atIYd_B d s
  | .sll_atIYd_C d => Sys2Proof.Machine.exec_sll_atIYd_C d s
  | .sll_atIYd_D d => Sys2Proof.Machine.exec_sll_atIYd_D d s
  | .sll_atIYd_E d => Sys2Proof.Machine.exec_sll_atIYd_E d s
  | .sll_atIYd_H d => Sys2Proof.Machine.exec_sll_atIYd_H d s
  | .sll_atIYd_L d => Sys2Proof.Machine.exec_sll_atIYd_L d s
  | .sll_atIYd d => Sys2Proof.Machine.exec_sll_atIYd d s
  | .sll_atIYd_A d => Sys2Proof.Machine.exec_sll_atIYd_A d s
  | .srl_atIYd_B d => Sys2Proof.Machine.exec_srl_atIYd_B d s
  | .srl_atIYd_C d => Sys2Proof.Machine.exec_srl_atIYd_C d s
  | .srl_atIYd_D d => Sys2Proof.Machine.exec_srl_atIYd_D d s
  | .srl_atIYd_E d => Sys2Proof.Machine.exec_srl_atIYd_E d s
  | .srl_atIYd_H d => Sys2Proof.Machine.exec_srl_atIYd_H d s
  | .srl_atIYd_L d => Sys2Proof.Machine.exec_srl_atIYd_L d s
  | .srl_atIYd d => Sys2Proof.Machine.exec_srl_atIYd d s
  | .srl_atIYd_A d => Sys2Proof.Machine.exec_srl_atIYd_A d s
  | .bit_0_atIYd d z => Sys2Proof.Machine.exec_bit_0_atIYd d z s
  | .bit_1_atIYd d z => Sys2Proof.Machine.exec_bit_1_atIYd d z s
  | .bit_2_atIYd d z => Sys2Proof.Machine.exec_bit_2_atIYd d z s
  | .bit_3_atIYd d z => Sys2Proof.Machine.exec_bit_3_atIYd d z s
  | .bit_4_atIYd d z => Sys2Proof.Machine.exec_bit_4_atIYd d z s
  | .bit_5_atIYd d z => Sys2Proof.Machine.exec_bit_5_atIYd d z s
  | .bit_6_atIYd d z => Sys2Proof.Machine.exec_bit_6_atIYd d z s
  | .bit_7_atIYd d z => Sys2Proof.Machine.exec_bit_7_atIYd d z s
  | .res_0_atIYd_B d => Sys2Proof.Machine.exec_res_0_atIYd_B d s
  | .res_0_atIYd_C d => Sys2Proof.Machine.exec_res_0_atIYd_C d s
  | .res_0_atIYd_D d => Sys2Proof.Machine.exec_res_0_atIYd_D d s
  | .res_0_atIYd_E d => Sys2Proof.Machine.exec_res_0_atIYd_E d s
  | .res_0_atIYd_H d => Sys2Proof.Machine.exec_res_0_atIYd_H d s
  | .res_0_atIYd_L d => Sys2Proof.Machine.exec_res_0_atIYd_L d s
  | .res_0_atIYd d => Sys2Proof.Machine.exec_res_0_atIYd d s
  | .res_0_atIYd_A d => Sys2Proof.Machine.exec_res_0_atIYd_A d s
  | .res_1_atIYd_B d => Sys2Proof.Machine.exec_res_1_atIYd_B d s
  | .res_1_atIYd_C d => Sys2Proof.Machine.exec_res_1_atIYd_C d s
  | .res_1_atIYd_D d => Sys2Proof.Machine.exec_res_1_atIYd_D d s
  | .res_1_atIYd_E d => Sys2Proof.Machine.exec_res_1_atIYd_E d s
  | .res_1_atIYd_H d => Sys2Proof.Machine.exec_res_1_atIYd_H d s
  | .res_1_atIYd_L d => Sys2Proof.Machine.exec_res_1_atIYd_L d s
  | .res_1_atIYd d => Sys2Proof.Machine.exec_res_1_atIYd d s
  | .res_1_atIYd_A d => Sys2Proof.Machine.exec_res_1_atIYd_A d s
  | .res_2_atIYd_B d => Sys2Proof.Machine.exec_res_2_atIYd_B d s
  | .res_2_atIYd_C d => Sys2Proof.Machine.exec_res_2_atIYd_C d s
  | .res_2_atIYd_D d => Sys2Proof.Machine.exec_res_2_atIYd_D d s
  | .res_2_atIYd_E d => Sys2Proof.Machine.exec_res_2_atIYd_E d s
  | .res_2_atIYd_H d => Sys2Proof.Machine.exec_res_2_atIYd_H d s
  | .res_2_atIYd_L d => Sys2Proof.Machine.exec_res_2_atIYd_L d s
  | .res_2_atIYd d => Sys2Proof.Machine.exec_res_2_atIYd d s
  | .res_2_atIYd_A d => Sys2Proof.Machine.exec_res_2_atIYd_A d s
  | .res_3_atIYd_B d => Sys2Proof.Machine.exec_res_3_atIYd_B d s
  | .res_3_atIYd_C d => Sys2Proof.Machine.exec_res_3_atIYd_C d s
  | .res_3_atIYd_D d => Sys2Proof.Machine.exec_res_3_atIYd_D d s
  | .res_3_atIYd_E d => Sys2Proof.Machine.exec_res_3_atIYd_E d s
  | .res_3_atIYd_H d => Sys2Proof.Machine.exec_res_3_atIYd_H d s
  | .res_3_atIYd_L d => Sys2Proof.Machine.exec_res_3_atIYd_L d s
  | .res_3_atIYd d => Sys2Proof.Machine.exec_res_3_atIYd d s
  | .res_3_atIYd_A d => Sys2Proof.Machine.exec_res_3_atIYd_A d s
  | .res_4_atIYd_B d => Sys2Proof.Machine.exec_res_4_atIYd_B d s
  | .res_4_atIYd_C d => Sys2Proof.Machine.exec_res_4_atIYd_C d s
  | .res_4_atIYd_D d => Sys2Proof.Machine.exec_res_4_atIYd_D d s
  | .res_4_atIYd_E d => Sys2Proof.Machine.exec_res_4_atIYd_E d s
  | .res_4_atIYd_H d => Sys2Proof.Machine.exec_res_4_atIYd_H d s
  | .res_4_atIYd_L d => Sys2Proof.Machine.exec_res_4_atIYd_L d s
  | .res_4_atIYd d => Sys2Proof.Machine.exec_res_4_atIYd d s
  | .res_4_atIYd_A d => Sys2Proof.Machine.exec_res_4_atIYd_A d s
  | .res_5_atIYd_B d => Sys2Proof.Machine.exec_res_5_atIYd_B d s
  | .res_5_atIYd_C d => Sys2Proof.Machine.exec_res_5_atIYd_C d s
  | .res_5_atIYd_D d => Sys2Proof.Machine.exec_res_5_atIYd_D d s
  | .res_5_atIYd_E d => Sys2Proof.Machine.exec_res_5_atIYd_E d s
  | .res_5_atIYd_H d => Sys2Proof.Machine.exec_res_5_atIYd_H d s
  | .res_5_atIYd_L d => Sys2Proof.Machine.exec_res_5_atIYd_L d s
  | .res_5_atIYd d => Sys2Proof.Machine.exec_res_5_atIYd d s
  | .res_5_atIYd_A d => Sys2Proof.Machine.exec_res_5_atIYd_A d s
  | .res_6_atIYd_B d => Sys2Proof.Machine.exec_res_6_atIYd_B d s
  | .res_6_atIYd_C d => Sys2Proof.Machine.exec_res_6_atIYd_C d s
  | .res_6_atIYd_D d => Sys2Proof.Machine.exec_res_6_atIYd_D d s
  | .res_6_atIYd_E d => Sys2Proof.Machine.exec_res_6_atIYd_E d s
  | .res_6_atIYd_H d => Sys2Proof.Machine.exec_res_6_atIYd_H d s
  | .res_6_atIYd_L d => Sys2Proof.Machine.exec_res_6_atIYd_L d s
  | .res_6_atIYd d => Sys2Proof.Machine.exec_res_6_atIYd d s
  | .res_6_atIYd_A d => Sys2Proof.Machine.exec_res_6_atIYd_A d s
  | .res_7_atIYd_B d => Sys2Proof.Machine.exec_res_7_atIYd_B d s
  | .res_7_atIYd_C d => Sys2Proof.Machine.exec_res_7_atIYd_C d s
  | .res_7_atIYd_D d => Sys2Proof.Machine.exec_res_7_atIYd_D d s
  | .res_7_atIYd_E d => Sys2Proof.Machine.exec_res_7_atIYd_E d s
  | .res_7_atIYd_H d => Sys2Proof.Machine.exec_res_7_atIYd_H d s
  | .res_7_atIYd_L d => Sys2Proof.Machine.exec_res_7_atIYd_L d s
  | .res_7_atIYd d => Sys2Proof.Machine.exec_res_7_atIYd d s
  | .res_7_atIYd_A d => Sys2Proof.Machine.exec_res_7_atIYd_A d s
  | .set_0_atIYd_B d => Sys2Proof.Machine.exec_set_0_atIYd_B d s
  | .set_0_atIYd_C d => Sys2Proof.Machine.exec_set_0_atIYd_C d s
  | .set_0_atIYd_D d => Sys2Proof.Machine.exec_set_0_atIYd_D d s
  | .set_0_atIYd_E d => Sys2Proof.Machine.exec_set_0_atIYd_E d s
  | .set_0_atIYd_H d => Sys2Proof.Machine.exec_set_0_atIYd_H d s
  | .set_0_atIYd_L d => Sys2Proof.Machine.exec_set_0_atIYd_L d s
  | .set_0_atIYd d => Sys2Proof.Machine.exec_set_0_atIYd d s
  | .set_0_atIYd_A d => Sys2Proof.Machine.exec_set_0_atIYd_A d s
  | .set_1_atIYd_B d => Sys2Proof.Machine.exec_set_1_atIYd_B d s
  | .set_1_atIYd_C d => Sys2Proof.Machine.exec_set_1_atIYd_C d s
  | .set_1_atIYd_D d => Sys2Proof.Machine.exec_set_1_atIYd_D d s
  | .set_1_atIYd_E d => Sys2Proof.Machine.exec_set_1_atIYd_E d s
  | .set_1_atIYd_H d => Sys2Proof.Machine.exec_set_1_atIYd_H d s
  | .set_1_atIYd_L d => Sys2Proof.Machine.exec_set_1_atIYd_L d s
  | .set_1_atIYd d => Sys2Proof.Machine.exec_set_1_atIYd d s
  | .set_1_atIYd_A d => Sys2Proof.Machine.exec_set_1_atIYd_A d s
  | .set_2_atIYd_B d => Sys2Proof.Machine.exec_set_2_atIYd_B d s
  | .set_2_atIYd_C d => Sys2Proof.Machine.exec_set_2_atIYd_C d s
  | .set_2_atIYd_D d => Sys2Proof.Machine.exec_set_2_atIYd_D d s
  | .set_2_atIYd_E d => Sys2Proof.Machine.exec_set_2_atIYd_E d s
  | .set_2_atIYd_H d => Sys2Proof.Machine.exec_set_2_atIYd_H d s
  | .set_2_atIYd_L d => Sys2Proof.Machine.exec_set_2_atIYd_L d s
  | .set_2_atIYd d => Sys2Proof.Machine.exec_set_2_atIYd d s
  | .set_2_atIYd_A d => Sys2Proof.Machine.exec_set_2_atIYd_A d s
  | .set_3_atIYd_B d => Sys2Proof.Machine.exec_set_3_atIYd_B d s
  | .set_3_atIYd_C d => Sys2Proof.Machine.exec_set_3_atIYd_C d s
  | .set_3_atIYd_D d => Sys2Proof.Machine.exec_set_3_atIYd_D d s
  | .set_3_atIYd_E d => Sys2Proof.Machine.exec_set_3_atIYd_E d s
  | .set_3_atIYd_H d => Sys2Proof.Machine.exec_set_3_atIYd_H d s
  | .set_3_atIYd_L d => Sys2Proof.Machine.exec_set_3_atIYd_L d s
  | .set_3_atIYd d => Sys2Proof.Machine.exec_set_3_atIYd d s
  | .set_3_atIYd_A d => Sys2Proof.Machine.exec_set_3_atIYd_A d s
  | .set_4_atIYd_B d => Sys2Proof.Machine.exec_set_4_atIYd_B d s
  | .set_4_atIYd_C d => Sys2Proof.Machine.exec_set_4_atIYd_C d s
  | .set_4_atIYd_D d => Sys2Proof.Machine.exec_set_4_atIYd_D d s
  | .set_4_atIYd_E d => Sys2Proof.Machine.exec_set_4_atIYd_E d s
  | .set_4_atIYd_H d => Sys2Proof.Machine.exec_set_4_atIYd_H d s
  | .set_4_atIYd_L d => Sys2Proof.Machine.exec_set_4_atIYd_L d s
  | .set_4_atIYd d => Sys2Proof.Machine.exec_set_4_atIYd d s
  | .set_4_atIYd_A d => Sys2Proof.Machine.exec_set_4_atIYd_A d s
  | .set_5_atIYd_B d => Sys2Proof.Machine.exec_set_5_atIYd_B d s
  | .set_5_atIYd_C d => Sys2Proof.Machine.exec_set_5_atIYd_C d s
  | .set_5_atIYd_D d => Sys2Proof.Machine.exec_set_5_atIYd_D d s
  | .set_5_atIYd_E d => Sys2Proof.Machine.exec_set_5_atIYd_E d s
  | .set_5_atIYd_H d => Sys2Proof.Machine.exec_set_5_atIYd_H d s
  | .set_5_atIYd_L d => Sys2Proof.Machine.exec_set_5_atIYd_L d s
  | .set_5_atIYd d => Sys2Proof.Machine.exec_set_5_atIYd d s
  | .set_5_atIYd_A d => Sys2Proof.Machine.exec_set_5_atIYd_A d s
  | .set_6_atIYd_B d => Sys2Proof.Machine.exec_set_6_atIYd_B d s
  | .set_6_atIYd_C d => Sys2Proof.Machine.exec_set_6_atIYd_C d s
  | .set_6_atIYd_D d => Sys2Proof.Machine.exec_set_6_atIYd_D d s
  | .set_6_atIYd_E d => Sys2Proof.Machine.exec_set_6_atIYd_E d s
  | .set_6_atIYd_H d => Sys2Proof.Machine.exec_set_6_atIYd_H d s
  | .set_6_atIYd_L d => Sys2Proof.Machine.exec_set_6_atIYd_L d s
  | .set_6_atIYd d => Sys2Proof.Machine.exec_set_6_atIYd d s
  | .set_6_atIYd_A d => Sys2Proof.Machine.exec_set_6_atIYd_A d s
  | .set_7_atIYd_B d => Sys2Proof.Machine.exec_set_7_atIYd_B d s
  | .set_7_atIYd_C d => Sys2Proof.Machine.exec_set_7_atIYd_C d s
  | .set_7_atIYd_D d => Sys2Proof.Machine.exec_set_7_atIYd_D d s
  | .set_7_atIYd_E d => Sys2Proof.Machine.exec_set_7_atIYd_E d s
  | .set_7_atIYd_H d => Sys2Proof.Machine.exec_set_7_atIYd_H d s
  | .set_7_atIYd_L d => Sys2Proof.Machine.exec_set_7_atIYd_L d s
  | .set_7_atIYd d => Sys2Proof.Machine.exec_set_7_atIYd d s
  | .set_7_atIYd_A d => Sys2Proof.Machine.exec_set_7_atIYd_A d s

end Sys2Proof.Machine
end

