-- ==== Sys2Proof/Machine/Table.lean ====
section
/-! DEFINITION. What a table entry does, family by family, and that `exec` of the entry's instruction is
exactly that. -/

namespace Sys2Proof.Machine

/-- What a table entry does (40_load8.md to 48_cpu_control.md). -/
def runOp (p : Op) (s : State) : State :=
  match p with
  | .ld m y z => s.load8 (rowLoc m y) (.loc (rowLoc m z))
  | .ldImm m y n => s.load8 (rowLoc m y) (.imm n)
  | .ldFrom o y => s.load8 (.reg y) (.mem o)
  | .ldTo o z => s.store8 o z
  | .ldToImm o n => s.storeImm o n
  | .ldAFromBC => s.loadAFrom s.bc 7
  | .ldAFromDE => s.loadAFrom s.de 7
  | .ldAFromNn nn => s.loadAFrom nn 13
  | .ldAToBC => s.storeATo s.bc 7
  | .ldAToDE => s.storeATo s.de 7
  | .ldAToNn nn => s.storeATo nn 13
  | .ld16Imm m p nn => s.load16Imm (rpReg m p) nn
  | .ld16From m nn => s.load16Mem (modeReg m) nn 16
  | .ld16To m nn => s.store16 (modeReg m) nn 16
  | .ldSp m => s.loadSp (modeReg m)
  | .push m p => s.pushReg (rp2Reg m p)
  | .pop m p => s.popReg (rp2Reg m p)
  | .exDeHl => s.exDeHl
  | .exAf => s.exAf
  | .exx => s.exx
  | .exSp m => s.exSp (modeReg m)
  | .aluReg m a z => s.alu a (.loc (rowLoc m z))
  | .aluMem a o => s.alu a (.mem o)
  | .aluImm a n => s.alu a (.imm n)
  | .incReg m y => s.incLoc (rowLoc m y)
  | .incMem o => s.incMem o
  | .decReg m y => s.decLoc (rowLoc m y)
  | .decMem o => s.decMem o
  | .daa => s.daa
  | .cpl => s.cpl
  | .scf => s.scf
  | .ccf => s.ccf
  | .add16 m p => s.addTo16 (modeReg m) (rpReg m p)
  | .inc16 m p => s.inc16 (rpReg m p)
  | .dec16 m p => s.dec16 (rpReg m p)
  | .rlca => s.accRotate .rlc
  | .rrca => s.accRotate .rrc
  | .rla => s.accRotate .rl
  | .rra => s.accRotate .rr
  | .rotReg k z => s.rotReg k z
  | .rotHL k => s.rotHL k
  | .rotIdx m k z d => s.rotIdx m k z d
  | .bitReg b z => s.bitReg b z
  | .bitHL b => s.bitHL b
  | .bitIdx m b _ d => s.bitIdx m b d
  | .resReg b z => s.resReg b z
  | .resHL b => s.resHL b
  | .resIdx m b z d => s.resIdx m b z d
  | .setReg b z => s.setReg b z
  | .setHL b => s.setHL b
  | .setIdx m b z d => s.setIdxBit m b z d
  | .inA n => s.inA n
  | .outA n => s.outA n
  | .jp nn => s.jp nn
  | .jpCc k nn => s.jpCc k nn
  | .jr e => s.jr e
  | .jrCc k e => s.jrCc (jrCond k) e
  | .djnz e => s.djnz e
  | .jpReg m => s.jpReg (modeReg m)
  | .call nn => s.call nn
  | .callCc k nn => s.callCc k nn
  | .ret => s.ret
  | .retCc k => s.retCc k
  | .rst y => s.rst y
  | .nop => s.nop
  | .halt => s.halt
  | .di => s.di
  | .ei => s.ei
  | .index x _ => s.index x
  | .ed e => runEd e s
  | .edUnder _ e => runEd e s

/-- A property of every 3-bit field, value by value. -/
theorem forall_fin8 {P : Fin 8 → Prop} (h0 : P 0) (h1 : P 1) (h2 : P 2) (h3 : P 3) (h4 : P 4)
    (h5 : P 5) (h6 : P 6) (h7 : P 7) (y : Fin 8) : P y := by
  match y with
  | 0 => exact h0
  | 1 => exact h1
  | 2 => exact h2
  | 3 => exact h3
  | 4 => exact h4
  | 5 => exact h5
  | 6 => exact h6
  | 7 => exact h7

/-- `exec` of an ED entry's instruction is what the entry does. -/
theorem exec_edInstr (e : EdOp) (s : State) : exec (edInstr e) s = .next (runEd e s) := by
  cases e with
  | inReg k => cases k <;> rfl
  | outReg k => cases k <;> rfl
  | sbcHL p => cases p <;> rfl
  | adcHL p => cases p <;> rfl
  | store p nn => cases p <;> rfl
  | load p nn => cases p <;> rfl
  | im y => revert y; exact forall_fin8 rfl rfl rfl rfl rfl rfl rfl rfl
  | block fam up rep => cases fam <;> cases up <;> cases rep <;> rfl
  | _ => rfl

/-- `exec` of a table entry's instruction is what the entry does. -/
theorem exec_toInstr (p : Op) (s : State) : exec p.toInstr s = .next (runOp p s) := by
  cases p with
  | ld m y z => cases m <;> cases y <;> cases z <;> rfl
  | ldImm m y n => cases m <;> cases y <;> rfl
  | ldFrom o y => rcases o with _ | ⟨m, d⟩ <;> try cases m
                  all_goals cases y <;> rfl
  | ldTo o y => rcases o with _ | ⟨m, d⟩ <;> try cases m
                all_goals cases y <;> rfl
  | ldToImm o n => rcases o with _ | ⟨m, d⟩ <;> try cases m
                   all_goals rfl
  | ld16Imm m p nn => cases m <;> cases p <;> rfl
  | ld16From m nn => cases m <;> rfl
  | ld16To m nn => cases m <;> rfl
  | ldSp m => cases m <;> rfl
  | push m p => cases m <;> cases p <;> rfl
  | pop m p => cases m <;> cases p <;> rfl
  | exSp m => cases m <;> rfl
  | aluReg m a z => cases m <;> cases a <;> cases z <;> rfl
  | aluMem a o => rcases o with _ | ⟨m, d⟩ <;> try cases m
                  all_goals cases a <;> rfl
  | aluImm a n => cases a <;> rfl
  | incReg m y => cases m <;> cases y <;> rfl
  | decReg m y => cases m <;> cases y <;> rfl
  | incMem o => rcases o with _ | ⟨m, d⟩ <;> try cases m
                all_goals rfl
  | decMem o => rcases o with _ | ⟨m, d⟩ <;> try cases m
                all_goals rfl
  | add16 m p => cases m <;> cases p <;> rfl
  | inc16 m p => cases m <;> cases p <;> rfl
  | dec16 m p => cases m <;> cases p <;> rfl
  | rotReg k z => cases k <;> cases z <;> rfl
  | rotHL k => cases k <;> rfl
  | rotIdx m k z d => rcases z with _ | z <;> try cases z
                      all_goals cases m <;> cases k <;> rfl
  | bitReg b z => cases z <;> revert b <;> exact forall_fin8 rfl rfl rfl rfl rfl rfl rfl rfl
  | bitHL b => revert b; exact forall_fin8 rfl rfl rfl rfl rfl rfl rfl rfl
  | bitIdx m b z d => cases m <;> revert b <;> exact forall_fin8 rfl rfl rfl rfl rfl rfl rfl rfl
  | resReg b z => cases z <;> revert b <;> exact forall_fin8 rfl rfl rfl rfl rfl rfl rfl rfl
  | resHL b => revert b; exact forall_fin8 rfl rfl rfl rfl rfl rfl rfl rfl
  | resIdx m b z d =>
    rcases z with _ | z <;> try cases z
    all_goals cases m <;> revert b <;> exact forall_fin8 rfl rfl rfl rfl rfl rfl rfl rfl
  | setReg b z => cases z <;> revert b <;> exact forall_fin8 rfl rfl rfl rfl rfl rfl rfl rfl
  | setHL b => revert b; exact forall_fin8 rfl rfl rfl rfl rfl rfl rfl rfl
  | setIdx m b z d =>
    rcases z with _ | z <;> try cases z
    all_goals cases m <;> revert b <;> exact forall_fin8 rfl rfl rfl rfl rfl rfl rfl rfl
  | jpCc k nn => cases k <;> rfl
  | jrCc k e => match k with
                | 0 => rfl
                | 1 => rfl
                | 2 => rfl
                | 3 => rfl
  | jpReg m => cases m <;> rfl
  | callCc k nn => cases k <;> rfl
  | retCc k => cases k <;> rfl
  | rst y => revert y; exact forall_fin8 rfl rfl rfl rfl rfl rfl rfl rfl
  | index x m => cases x <;> cases m <;> rfl
  | ed e => exact exec_edInstr e s
  | edUnder x e => cases x <;> rfl
  | _ => rfl

end Sys2Proof.Machine
end

