-- ==== Sys2Proof/Machine/Run.lean ====
section
/-! DEFINITION. One step of the core: the fetch of an instruction's bytes and its execution
(30_encoding.md rule R118), the acceptance of a maskable interrupt (60_exceptions.md rules R507, R508)
and the choice between them (60_exceptions.md rule R500). -/

namespace Sys2Proof.Machine

/-- A DD or FD byte. -/
def isPrefix (op : Byte) : Bool := op == 0xDD || op == 0xFD

/-- The bytes the decoder fetches for one step: the opcode by an M1 fetch, a second M1 fetch after ED and
after an unprefixed CB, every other byte by an operand fetch (30_encoding.md rule R118). -/
def State.fetchBytes (s : State) : List Byte × State :=
  let op := s.fetchOpcode
  if op.1 = 0xED then
    let op2 := op.2.fetchOpcode
    let rest := op2.2.fetchOperands (edOperandCount op2.1)
    (op.1 :: op2.1 :: rest.1, rest.2)
  else if op.1 = 0xCB ∧ s.indexMode = .hl then
    let op2 := op.2.fetchOpcode
    ([op.1, op2.1], op2.2)
  else
    let rest := op.2.fetchOperands (operandCount s.indexMode op.1)
    (op.1 :: rest.1, rest.2)

/-- What an instruction's start does: the EI shadow ends (30_encoding.md rule R118) and the pending prefix
ends (10_state.md rule R45; rule R118 ends it after the execute part, log entry 10); a prefix step leaves
both. -/
def State.startInstr (s : State) (op : Byte) : State :=
  if isPrefix op then s else { s with eiPending := false, indexMode := .hl }

/-- The state in which the fetched instruction executes. -/
def State.fetched (s : State) : State := s.fetchBytes.2.startInstr s.fetchOpcode.1

/-- `SingleByte(v)` (60_exceptions.md rule R508): a main-table opcode without operand byte that is neither
a prefix nor HALT. -/
def singleByte (v : Byte) : Bool :=
  immediateCount v == 0 && !(v == 0xCB || v == 0xDD || v == 0xED || v == 0xFD || v == 0x76)

/-- The step accepts the NMI (60_exceptions.md rules R500, R502, R503). -/
def State.takesNmi (s : State) : Bool := s.indexMode == .hl && s.nmiPending

/-- The step accepts the maskable interrupt if it does not accept the NMI (60_exceptions.md rules R500,
R504, R505). -/
def State.takesInt (s : State) : Bool := s.indexMode == .hl && s.intLine && s.iff1 && !s.eiPending

noncomputable section

/-- Decode and execute (30_encoding.md rule R118). -/
def State.runInstruction (s : State) : Outcome :=
  exec (decodeFetched s.indexMode s.fetchBytes.1) s.fetched

/-- `AcceptINT(v)` (60_exceptions.md rules R507 to R510, R512). -/
def State.acceptInt (s : State) (v : Byte) : Outcome :=
  match s.im with
  | .im0 =>
    if singleByte v then exec (decodeFetched .hl [v]) ((s.acknowledgeInt v).tick 2)
    else .refused (.im0Data v)
  | .im1 => .next (s.acknowledgeInt v).enterIm1
  | .im2 => .next ((s.acknowledgeInt v).enterIm2 v)

/-- One step (60_exceptions.md rule R500). -/
def State.runStep (s : State) : Outcome :=
  if s.takesNmi then .next s.acceptNmi
  else if s.takesInt then s.acceptInt s.intData
  else s.runInstruction

end

/-! ### The same step without building a term of `Instr`, for the compiler (log entry 13) -/

/-- `State.acceptInt` through the table entry. -/
def State.acceptIntOp (s : State) (v : Byte) : Outcome :=
  match s.im with
  | .im0 =>
    if singleByte v then .next (runOp (decodeOp .hl [v]) ((s.acknowledgeInt v).tick 2))
    else .refused (.im0Data v)
  | .im1 => .next (s.acknowledgeInt v).enterIm1
  | .im2 => .next ((s.acknowledgeInt v).enterIm2 v)

/-- `State.runStep` through the table entry. -/
def State.runStepOp (s : State) : Outcome :=
  if s.takesNmi then .next s.acceptNmi
  else if s.takesInt then s.acceptIntOp s.intData
  else .next (runOp (decodeOp s.indexMode s.fetchBytes.1) s.fetched)

/-- Decoding and executing runs the table entry the fetched bytes stand for. -/
theorem runInstruction_eq (s : State) :
    s.runInstruction = .next (runOp (decodeOp s.indexMode s.fetchBytes.1) s.fetched) :=
  exec_toInstr _ _

/-- Accepting a maskable interrupt runs the table entry of the data byte in mode 0. -/
theorem acceptInt_eq (s : State) (v : Byte) : s.acceptInt v = s.acceptIntOp v := by
  unfold State.acceptInt State.acceptIntOp decodeFetched
  simp only [exec_toInstr]

/-- The step for the compiler is the step. -/
@[csimp] theorem runStep_eq_op : @State.runStep = @State.runStepOp := by
  funext s
  unfold State.runStep State.runStepOp
  rw [acceptInt_eq, runInstruction_eq]

end Sys2Proof.Machine
end

