-- ==== Sys2Proof/Machine/Step.lean ====
section
/-! DEFINITION. The step of the core and the placing of an instruction where it is fetched. -/

namespace Sys2Proof.Machine

/-- One step of the core (60_exceptions.md rule R500): a prefix step, an instruction step, an NMI
acceptance, a maskable-interrupt acceptance or a refusal. -/
def step (s : State) : Host.Outcome State Fault Refusal := s.runStep

/-- `s` with the instruction of a table row placed where `step` fetches: its DD or FD prefix already
read into `index_mode`, its other bytes and zeros at PC, memory answering the fetch, and no interrupt to
accept (log entry 9). -/
def State.withFetchWord (s : State) (nbits w : Nat) : State :=
  let r := splitPrefix (tableBytes nbits w)
  { s with
    mem := Memory.writeBytes s.mem s.pc (r.2 ++ [0, 0, 0, 0])
    indexMode := r.1
    nmiPending := false
    intLine := false
    params := { s.params with busModel := .ram } }

end Sys2Proof.Machine
end

