-- ==== Sys2Proof/Safety.lean ====
section
/-! DEFINITION. The terms claims are stated in: the parts of the state and what a frame says of them, a
flag byte named bit by bit, the end of a run, and the invariant every step keeps. -/

namespace Sys2Proof.Safety

open Sys2Proof.Machine

/-! ### The parts of the state -/

/-- The parts of the state a frame names. F, an index half and each shadow register are parts of their
own; memory is not a part: a frame gives its stored addresses. -/
inductive Part where
  | a | f | b | c | d | e | h | l
  | a' | f' | b' | c' | d' | e' | h' | l'
  | ixh | ixl | iyh | iyl
  | sp | pc | wz | i | r
  | iff1 | iff2 | im | halted | eiPending | indexMode | nmiPending
  | ticks | history | intLine | intData | params
deriving DecidableEq, Repr

/-- The content of a part. -/
inductive Content where
  | byte (v : Byte)
  | word (v : Word)
  | flag (v : Bool)
  | mode (v : IntMode)
  | index (v : IndexMode)
  | count (v : Nat)
  | events (v : List Event)
  | settings (v : Params)
deriving DecidableEq, Repr

/-- What a part holds. -/
def content (s : State) (p : Part) : Content :=
  match p with
  | .a => .byte s.main.a
  | .f => .byte s.main.f
  | .b => .byte s.main.b
  | .c => .byte s.main.c
  | .d => .byte s.main.d
  | .e => .byte s.main.e
  | .h => .byte s.main.h
  | .l => .byte s.main.l
  | .a' => .byte s.shadow.a
  | .f' => .byte s.shadow.f
  | .b' => .byte s.shadow.b
  | .c' => .byte s.shadow.c
  | .d' => .byte s.shadow.d
  | .e' => .byte s.shadow.e
  | .h' => .byte s.shadow.h
  | .l' => .byte s.shadow.l
  | .ixh => .byte (hiByte s.ix)
  | .ixl => .byte (loByte s.ix)
  | .iyh => .byte (hiByte s.iy)
  | .iyl => .byte (loByte s.iy)
  | .sp => .word s.sp
  | .pc => .word s.pc
  | .wz => .word s.wz
  | .i => .byte s.i
  | .r => .byte s.r
  | .iff1 => .flag s.iff1
  | .iff2 => .flag s.iff2
  | .im => .mode s.im
  | .halted => .flag s.halted
  | .eiPending => .flag s.eiPending
  | .indexMode => .index s.indexMode
  | .nmiPending => .flag s.nmiPending
  | .ticks => .count s.ticks
  | .history => .events s.history
  | .intLine => .flag s.intLine
  | .intData => .byte s.intData
  | .params => .settings s.params

/-- The byte memory holds at an address. -/
def byteAt (s : State) (a : Word) : Byte := Memory.read s.mem a.toNat

/-- From `s` to `t` nothing changed but the parts `ps` and the bytes at the addresses `stored`. -/
def Frame (ps : List Part) (stored : List Word) (s t : State) : Prop :=
  (∀ p, p ∉ ps → content t p = content s p) ∧ (∀ a, a ∉ stored → byteAt t a = byteAt s a)

/-- The part an 8-bit register is. -/
def part8 (k : Reg8) : Part :=
  match k with
  | .b => .b
  | .c => .c
  | .d => .d
  | .e => .e
  | .h => .h
  | .l => .l
  | .a => .a

/-- The part an 8-bit register or index half is. -/
def partLoc (k : Loc8) : Part :=
  match k with
  | .reg r => part8 r
  | .half .ix .hi => .ixh
  | .half .ix .lo => .ixl
  | .half .iy .hi => .iyh
  | .half .iy .lo => .iyl

/-- The parts a 16-bit register is. -/
def parts16 (k : Reg16) : List Part :=
  match k with
  | .bc => [.b, .c]
  | .de => [.d, .e]
  | .hl => [.h, .l]
  | .af => [.a, .f]
  | .sp => [.sp]
  | .ix => [.ixh, .ixl]
  | .iy => [.iyh, .iyl]

/-- The parts a step's own fetch changes (10_state.md rules R35, R37; 30_encoding.md rule R118). -/
def fetchParts : List Part := [.pc, .r, .eiPending, .indexMode, .history]

/-! ### Memory operands -/

/-- The effective address of a memory operand: HL, or m + d modulo 65,536 (30_encoding.md rule R120). -/
def addressOf (s : State) (o : MemOp) : Word :=
  match o with
  | .atHL => s.hl
  | .atIdx .ix d => s.ix + d.signExtend 16
  | .atIdx .iy d => s.iy + d.signExtend 16

/-- WZ after the operand is resolved: the address of an (m+d) operand, unchanged for (HL)
(30_encoding.md rule R120). -/
def wzAfter (s : State) (o : MemOp) : Word :=
  match o with
  | .atHL => s.wz
  | .atIdx _ _ => addressOf s o

/-! ### The opcodes a DD or FD prefix changes (30_encoding.md rule R117) -/

/-- Item 1: the opcodes whose (HL) operand becomes (m+d). -/
def indexedMemoryOpcodes : List Byte :=
  [0x34, 0x35, 0x36, 0x46, 0x4E, 0x56, 0x5E, 0x66, 0x6E, 0x7E, 0x70, 0x71, 0x72, 0x73, 0x74, 0x75, 0x77,
    0x86, 0x8E, 0x96, 0x9E, 0xA6, 0xAE, 0xB6, 0xBE]

/-- Item 2: the opcodes whose H or L operand becomes a half of m. -/
def indexHalfOpcodes : List Byte :=
  [0x24, 0x25, 0x26, 0x2C, 0x2D, 0x2E, 0x44, 0x45, 0x4C, 0x4D, 0x54, 0x55, 0x5C, 0x5D] ++
    [0x60, 0x61, 0x62, 0x63, 0x64, 0x65, 0x67, 0x68, 0x69, 0x6A, 0x6B, 0x6C, 0x6D, 0x6F, 0x7C, 0x7D] ++
    [0x84, 0x85, 0x8C, 0x8D, 0x94, 0x95, 0x9C, 0x9D, 0xA4, 0xA5, 0xAC, 0xAD, 0xB4, 0xB5, 0xBC, 0xBD]

/-- Item 3: the opcodes whose HL operand becomes m. -/
def indexRegisterOpcodes : List Byte :=
  [0x09, 0x19, 0x29, 0x39, 0x21, 0x22, 0x23, 0x2A, 0x2B, 0xE1, 0xE3, 0xE5, 0xE9, 0xF9]

/-- The opcodes before which a prefix matters: items 1 to 3, CB (item 4), and the bytes that are no
main-table entry, DD and FD (48_cpu_control.md rule R436) and ED (rule R438). Every other opcode is one of
items 5 and 6. -/
def prefixedOpcodes : List Byte :=
  indexedMemoryOpcodes ++ indexHalfOpcodes ++ indexRegisterOpcodes ++ [0xCB, 0xDD, 0xED, 0xFD]

/-! ### Returns from a handler (60_exceptions.md rule R513) -/

/-- The ED entry is RETI or RETN. -/
def edReturnsFromHandler (e : EdOp) : Bool :=
  match e with
  | .reti | .retn _ => true
  | _ => false

/-- The instruction is RETI or RETN, plain or behind a discarded prefix (48_cpu_control.md rule R438). -/
def returnsFromHandler (i : Instr) : Bool :=
  match i with
  | .reti | .retn _ => true
  | .prefixIX_ED e | .prefixIY_ED e => edReturnsFromHandler e
  | _ => false

/-! ### 8-bit source operands (30_encoding.md rule R126) -/

/-- The byte a source operand stands for. -/
def sourceByte (s : State) (o : Src8) : Byte :=
  match o with
  | .loc k => s.getLoc k
  | .mem mo => s.busByte (addressOf s mo)
  | .imm n => n

/-- WZ after a source operand is read. -/
def sourceWz (s : State) (o : Src8) : Word :=
  match o with
  | .mem mo => wzAfter s mo
  | .loc _ | .imm _ => s.wz

/-- The bus events of a source operand. -/
def sourceEvents (s : State) (o : Src8) : List Event :=
  match o with
  | .mem mo => [.read (addressOf s mo) (s.busByte (addressOf s mo))]
  | .loc _ | .imm _ => []

/-- The table entry `p` is ALU operation `a` on the source operand `o`. -/
def AluForm (a : AluOp) (o : Src8) (p : Op) : Prop :=
  (∃ m z, p = .aluReg m a z ∧ o = .loc (rowLoc m z)) ∨ (∃ mo, p = .aluMem a mo ∧ o = .mem mo) ∨
    ∃ n, p = .aluImm a n ∧ o = .imm n

/-! ### Two reads in a row -/

/-- The byte a read at `b` answers right after a read at `a`. -/
def secondByte (s : State) (a b : Word) : Byte := (s.record (.read a (s.busByte a))).busByte b

/-- The word two reads at `a` and `a + 1` answer (20_memory.md rule R73). -/
def wordAt (s : State) (a : Word) : Word := pair (secondByte s a (a + 1)) (s.busByte a)

/-- The events of the two reads of a word, newest first. -/
def wordReads (s : State) (a : Word) : List Event :=
  [.read (a + 1) (secondByte s a (a + 1)), .read a (s.busByte a)]

/-! ### A flag byte bit by bit -/

/-- The eight bits of a flag byte (10_state.md rule R39). -/
structure FlagBits where
  s : Bool
  z : Bool
  y : Bool
  h : Bool
  x : Bool
  pv : Bool
  n : Bool
  c : Bool
deriving DecidableEq, Repr

/-- The bits of the byte `f`, from bit 7 down. -/
def flagBits (f : Byte) : FlagBits :=
  { s := f.getLsbD 7, z := f.getLsbD 6, y := f.getLsbD 5, h := f.getLsbD 4
    x := f.getLsbD 3, pv := f.getLsbD 2, n := f.getLsbD 1, c := f.getLsbD 0 }

/-- The number of one bits of a byte. -/
def popcount (v : Byte) : Nat :=
  (v.getLsbD 0).toNat + (v.getLsbD 1).toNat + (v.getLsbD 2).toNat + (v.getLsbD 3).toNat +
    (v.getLsbD 4).toNat + (v.getLsbD 5).toNat + (v.getLsbD 6).toNat + (v.getLsbD 7).toNat

/-- Even parity (00_scope.md rule R7). -/
def evenParity (v : Byte) : Bool := popcount v % 2 == 0

/-- The condition NZ, Z, NC, C, PO, PE, P or M (30_encoding.md rule R104). -/
def condition (k : Cond) (s : State) : Bool :=
  let f := flagBits s.main.f
  match k with
  | .nz => !f.z
  | .z => f.z
  | .nc => !f.c
  | .c => f.c
  | .po => !f.pv
  | .pe => f.pv
  | .p => !f.s
  | .m => f.s

/-! ### Rotates and shifts as arithmetic (44_rotate_shift_bit.md rule R324) -/

/-- The result of a rotate or shift of the number `v` below 256 with the carry-in `c`. -/
def rotated (op : RotOp) (v : Nat) (c : Bool) : Nat :=
  match op with
  | .rlc => (2 * v + v / 128) % 256
  | .rrc => v / 2 + 128 * (v % 2)
  | .rl => (2 * v + c.toNat) % 256
  | .rr => v / 2 + 128 * c.toNat
  | .sla => 2 * v % 256
  | .sra => v / 2 + 128 * (v / 128)
  | .sll => (2 * v + 1) % 256
  | .srl => v / 2

/-- The bit a rotate or shift moves into C: bit 7 of the left forms, bit 0 of the right forms. -/
def shiftedOut (op : RotOp) (v : Byte) : Bool :=
  match op with
  | .rlc | .rl | .sla | .sll => v.getLsbD 7
  | .rrc | .rr | .sra | .srl => v.getLsbD 0

/-- The flags of a rotate or shift with result `r` and carry-out `c`. -/
def rotFlags (r : Byte) (c : Bool) : FlagBits :=
  { s := r.getLsbD 7, z := r == 0, y := r.getLsbD 5, h := false
    x := r.getLsbD 3, pv := evenParity r, n := false, c := c }

/-- The register an indexed CB form also writes, if any (44_rotate_shift_bit.md rule R341); `rot` says
that it is a rotate or shift. -/
def copyTarget (s : State) (rot : Bool) (z : Option Reg8) : Option Reg8 :=
  match s.params.ddcbCopy, z with
  | .doc, some .h => if rot then some .h else none
  | .doc, some .l => if rot then some .l else none
  | .doc, _ => none
  | .all, z => z
  | .none, _ => none

/-! ### Elapsed T-states (70_reset_and_hazards.md rules R608, R609) -/

/-- The total of an entry of the ED table, the next iteration of a repeating block form counting 21. -/
def tStatesEd (e : EdOp) (s : State) : Nat :=
  match e with
  | .inReg _ | .inF | .outReg _ | .outZero => 12
  | .sbcHL _ | .adcHL _ => 15
  | .store _ _ | .load _ _ => 20
  | .neg _ | .im _ | .noni _ => 8
  | .reti | .retn _ => 14
  | .ldIA | .ldRA | .ldAI | .ldAR => 9
  | .rrd | .rld => 18
  | .block _ _ false => 16
  | .block .ld _ true => if s.bc = 1 then 16 else 21
  | .block .cp _ true => if s.bc = 1 ∨ s.main.a = s.busByte s.hl then 16 else 21
  | .block .inp _ true | .block .outp _ true => if s.main.b = 1 then 16 else 21

/-- The total of a table entry from state `s`, less the 4 of a prefix step already counted. -/
def tStates (p : Op) (s : State) : Nat :=
  match p with
  | .nop | .halt | .di | .ei | .ld _ _ _ | .aluReg _ _ _ | .incReg _ _ | .decReg _ _ => 4
  | .exAf | .exDeHl | .exx | .jpReg _ | .rlca | .rrca | .rla | .rra | .daa | .cpl | .scf | .ccf => 4
  | .index _ _ => 4
  | .inc16 _ _ | .dec16 _ _ | .ldSp _ => 6
  | .ldImm _ _ _ | .aluImm _ _ | .ldAFromBC | .ldAFromDE | .ldAToBC | .ldAToDE => 7
  | .ldFrom .atHL _ | .ldTo .atHL _ | .aluMem _ .atHL => 7
  | .ldFrom _ _ | .ldTo _ _ | .aluMem _ _ => 15
  | .ld16Imm _ _ _ | .pop _ _ | .jp _ | .jpCc _ _ | .ret | .ldToImm .atHL _ => 10
  | .ldToImm _ _ => 15
  | .incMem .atHL | .decMem .atHL | .add16 _ _ | .push _ _ | .rst _ | .inA _ | .outA _ => 11
  | .incMem _ | .decMem _ => 19
  | .jr _ => 12
  | .jrCc k _ => if condHolds (jrCond k) s.main.f then 12 else 7
  | .djnz _ => if s.main.b = 1 then 8 else 13
  | .retCc k => if condHolds k s.main.f then 11 else 5
  | .ldAFromNn _ | .ldAToNn _ => 13
  | .ld16From _ _ | .ld16To _ _ => 16
  | .call _ => 17
  | .callCc k _ => if condHolds k s.main.f then 17 else 10
  | .exSp _ => 19
  | .rotReg _ _ | .bitReg _ _ | .resReg _ _ | .setReg _ _ => 8
  | .bitHL _ => 12
  | .rotHL _ | .resHL _ | .setHL _ => 15
  | .bitIdx _ _ _ _ => 16
  | .rotIdx _ _ _ _ | .resIdx _ _ _ _ | .setIdx _ _ _ _ => 19
  | .ed e | .edUnder _ e => tStatesEd e s

/-! ### The end of a run, and the invariant -/

/-- `END_OF_RUN` (60_exceptions.md rule R521). -/
def endOfRun (s : State) : Bool := s.halted

/-- What every step keeps: memory is in canonical form; interrupts enabled means both flip-flops are set
(10_state.md rule R41); the EI shadow exists only with interrupts enabled (rule R44); and a halted core
stands at an instruction boundary on its HALT byte (48_cpu_control.md rule R431). -/
structure Inv (s : State) : Prop where
  memory : Memory.wf s.mem = true
  enabled : s.iff1 = true → s.iff2 = true
  shadow : s.eiPending = true → s.iff1 = true
  halt : s.halted = true → s.params.busModel = .ram → s.indexMode = .hl ∧ byteAt s s.pc = 0x76

end Sys2Proof.Safety
end

