-- ==== Sys2Proof/Certificates/Slice0/Obligations.lean ====
section
/-! DEFINITION. The statements for the provers, each formalising rules of spec/. A statement about an
instruction family speaks of `p.toInstr` for the table entries `p` of the family: these are the family's
constructors of `Instr` (`Obligations.EveryInstructionIsATableEntry`). A state `s` is the one after the
instruction's own fetch, a state `t` the one after its execute part. -/

open Sys2Proof Sys2Proof.Machine Sys2Proof.Safety

/-! ### Encoding -/

/-- Every well-formed instruction's bytes, its prefix read into the index mode, decode to that instruction
and leave the bytes that follow (30_encoding.md rules R109 to R119). -/
def Obligations.DecodeEncodeRoundTrip : Prop :=
  ∀ (i : Instr) (rest : List Byte), i.wellFormed = true →
    decode (splitPrefix (encode i)).1 ((splitPrefix (encode i)).2 ++ rest) = .ok (i, rest)

/-- Words written out from the encodings of the spec decode to their instructions (30_encoding.md rules
R111 to R119). -/
def Obligations.SpecWordsDecode : Prop :=
  decodeTableWord 8 0x41 = some .ld_B_C ∧
  decodeTableWord 24 0x213412 = some (.ld_HL_nn 0x1234) ∧
  decodeTableWord 8 0x76 = some .halt ∧
  decodeTableWord 16 0xDD65 = some .ld_IXH_IXL ∧
  decodeTableWord 32 0xFD360599 = some (.ld_atIYd_n 0x05 0x99) ∧
  decodeTableWord 16 0xCB7E = some .bit_7_atHL ∧
  decodeTableWord 32 0xDDCB0538 = some (.srl_atIXd_B 0x05) ∧
  decodeTableWord 16 0xEDB0 = some .ldir ∧
  decodeTableWord 24 0xDDED44 = some (.prefixIX_ED (.neg 0))

/-- Any four bytes begin with one instruction, of one to four bytes, whose fields are well formed: no
encoding is illegal (30_encoding.md rule R123). -/
def Obligations.EveryByteSequenceDecodes : Prop :=
  ∀ (m : IndexMode) (b0 b1 b2 b3 : Byte) (rest : List Byte), ∃ i n,
    decode m (b0 :: b1 :: b2 :: b3 :: rest) = .ok (i, (b0 :: b1 :: b2 :: b3 :: rest).drop n) ∧
      1 ≤ n ∧ n ≤ 4 ∧ i.wellFormed = true

/-- The bytes of an instruction after its prefix byte, from its first bytes (30_encoding.md rule R122):
a prefix is one byte; CB op is 2, after a prefix CB d op is 3; ED op is 2 or 4; any other opcode is 1, one
more for n or e, two more for nn, one more for the d of a prefixed (HL) form. -/
def Obligations.InstructionLengths : Prop :=
  ∀ (m : IndexMode) (op b1 : Byte),
    instrLength m op b1 =
      if op ∈ [0xDD#8, 0xFD#8] then 1
      else if op = 0xCB#8 then (if m = .hl then 2 else 3)
      else if op = 0xED#8 then
        (if b1 ∈ [0x43#8, 0x4B#8, 0x53#8, 0x5B#8, 0x63#8, 0x6B#8, 0x73#8, 0x7B#8] then 4 else 2)
      else
        1 +
        (if op.toNat / 64 = 0 ∧ op.toNat % 8 = 6 ∨ op.toNat / 64 = 3 ∧ op.toNat % 8 = 6 ∨
            op ∈ [0xD3#8, 0xDB#8] ∨ op.toNat / 64 = 0 ∧ op.toNat % 8 = 0 ∧ 2 ≤ op.toNat / 8 % 8 then 1
          else 0) +
        (if op.toNat / 64 = 0 ∧ op.toNat % 16 = 1 ∨ op ∈ [0x22#8, 0x2A#8, 0x32#8, 0x3A#8] ∨
            op.toNat / 64 = 3 ∧ op.toNat % 8 = 2 ∨ op = 0xC3#8 ∨
            op.toNat / 64 = 3 ∧ op.toNat % 8 = 4 ∨ op = 0xCD#8 then 2
          else 0) +
        (if m ≠ .hl ∧ op ∈ [0x34#8, 0x35#8, 0x36#8, 0x46#8, 0x4E#8, 0x56#8, 0x5E#8, 0x66#8, 0x6E#8,
            0x7E#8, 0x70#8, 0x71#8, 0x72#8, 0x73#8, 0x74#8, 0x75#8, 0x77#8, 0x86#8, 0x8E#8, 0x96#8,
            0x9E#8, 0xA6#8, 0xAE#8, 0xB6#8, 0xBE#8] then 1
          else 0)

/-- Every well-formed instruction is a table entry's instruction. -/
def Obligations.EveryInstructionIsATableEntry : Prop :=
  ∀ i : Instr, i.wellFormed = true → ∃ p : Op, p.toInstr = i

/-! ### The step -/

/-- A step that accepts no interrupt is `exec` of the instruction the decoder reads from the fetched
bytes, in the state after the fetch (30_encoding.md rule R118, 60_exceptions.md rule R500). -/
def Obligations.StepRunsDecodedInstruction : Prop :=
  ∀ s : State, s.takesNmi = false → s.takesInt = false →
    step s = exec (decodeFetched s.indexMode s.fetchBytes.1) s.fetched

/-- Under `BUS_MODEL = ram` the decoded instruction is the one whose bytes stand at PC; the fetch moves PC
past them, counts R once for each M1 fetch (two for ED and for an unprefixed CB, else one), ends the EI
shadow and the prefix unless it fetched a prefix, and changes nothing else but the history
(30_encoding.md rule R118, 10_state.md rules R35, R37). That `index_mode` is HL again already before the
execute part is the model's choice (log entry 10): rule R118's pseudocode clears it after that part, while
10_state.md rule R45 quotes "cleared at next non-prefix opcode fetch". -/
def Obligations.FetchReadsTheInstructionAtPc : Prop :=
  ∀ s : State, s.params.busModel = .ram →
    let bytes := [byteAt s s.pc, byteAt s (s.pc + 1), byteAt s (s.pc + 2), byteAt s (s.pc + 3)]
    let n := instrLength s.indexMode (byteAt s s.pc) (byteAt s (s.pc + 1))
    let m1 : Nat := if byteAt s s.pc = 0xED ∨ (byteAt s s.pc = 0xCB ∧ s.indexMode = .hl) then 2 else 1
    decode s.indexMode bytes = .ok (decodeFetched s.indexMode s.fetchBytes.1, bytes.drop n) ∧
      s.fetched.pc = s.pc + BitVec.ofNat 16 n ∧
      s.fetched.r.toNat = 128 * (s.r.toNat / 128) + (s.r.toNat % 128 + m1) % 128 ∧
      (byteAt s s.pc ≠ 0xDD → byteAt s s.pc ≠ 0xFD →
        s.fetched.eiPending = false ∧ s.fetched.indexMode = .hl) ∧
      (byteAt s s.pc = 0xDD ∨ byteAt s s.pc = 0xFD →
        s.fetched.eiPending = s.eiPending ∧ s.fetched.indexMode = s.indexMode) ∧
      Frame fetchParts [] s s.fetched

/-- Every step keeps the invariant: canonical memory, IFF1 only with IFF2, the EI shadow only with
interrupts enabled, and a halted core at a boundary on its HALT byte. -/
def Obligations.StepKeepsInvariant : Prop :=
  ∀ s t : State, Inv s → step s = .next t → Inv t

/-- The invariant holds at reset, and after reset is applied to any state with canonical memory, whatever
the `RESET_FILL` draws (60_exceptions.md rule R505, 70_reset_and_hazards.md rule R601). -/
def Obligations.InvariantAtReset : Prop :=
  Inv State.reset ∧
    ∀ (fill : ResetFill) (s : State), Memory.wf s.mem = true → Inv (s.applyReset fill)

/-- Reset sets PC, I, R, IM, the flip-flops, the internal flags and `ticks` to 0, the other registers to
the draws, makes no bus access, records no event, touches neither memory nor the presented interrupt line,
and lowers the HALT output (70_reset_and_hazards.md rules R600, R601). -/
def Obligations.ResetState : Prop :=
  ∀ (fill : ResetFill) (s : State),
    let t := s.applyReset fill
    t.pc = 0x0000 ∧ t.i = 0x00 ∧ t.r = 0x00 ∧ t.im = .im0 ∧
      t.iff1 = false ∧ t.iff2 = false ∧ t.eiPending = false ∧ t.nmiPending = false ∧
      t.halted = false ∧ t.indexMode = .hl ∧ t.ticks = 0 ∧
      t.main = fill.main ∧ t.shadow = fill.shadow ∧ t.ix = fill.ix ∧ t.iy = fill.iy ∧
      t.sp = fill.sp ∧ t.wz = fill.wz ∧
      t.mem = s.mem ∧ t.history = s.history ∧ t.haltIndicator = false ∧
      t.intLine = s.intLine ∧ t.intData = s.intData ∧ t.params = s.params ∧
      step t = exec (decodeFetched .hl t.fetchBytes.1) t.fetched

/-- Every instruction completes from every state: there is no exception, fault or refusal of an
instruction (60_exceptions.md rule R501). -/
def Obligations.EveryInstructionCompletes : Prop :=
  ∀ (i : Instr) (s : State), ∃ t, exec i s = .next t

/-- A step answers a next state, or the one refusal: a maskable interrupt taken in mode 0 whose data byte
is not a single-byte instruction (60_exceptions.md rules R507, R508, R512). -/
def Obligations.OnlyRefusalIsIm0Data : Prop :=
  ∀ s : State,
    ((∃ t, step s = .next t) ↔
      ¬ (s.takesNmi = false ∧ s.takesInt = true ∧ s.im = .im0 ∧ singleByte s.intData = false)) ∧
    (s.takesNmi = false → s.takesInt = true → s.im = .im0 → singleByte s.intData = false →
      step s = .refused (.im0Data s.intData))

/-- At an instruction boundary with the NMI latched, whatever IFF1, `ei_pending` and the INT line are, the
step is the acceptance: HALT is released with PC advanced, R counts once, the latch and the EI shadow are
cleared, IFF1 is cleared, PC is pushed high byte first, PC and WZ take 0x0066, and nothing else changes
(60_exceptions.md rules R505, R506, R511). -/
def Obligations.NmiAcceptance : Prop :=
  ∀ s : State, s.indexMode = .hl → s.nmiPending = true → ∃ t,
    step s = .next t ∧
      let saved := if s.halted then s.pc + 1 else s.pc
      t.pc = 0x0066 ∧ t.wz = 0x0066 ∧ t.sp = s.sp - 2 ∧
      t.nmiPending = false ∧ t.halted = false ∧ t.eiPending = false ∧ t.iff1 = false ∧
      t.r.toNat = 128 * (s.r.toNat / 128) + (s.r.toNat % 128 + 1) % 128 ∧
      t.history = .write (s.sp - 2) (loByte saved) :: .write (s.sp - 1) (hiByte saved) :: s.history ∧
      (Memory.wf s.mem = true →
        byteAt t (s.sp - 1) = hiByte saved ∧ byteAt t (s.sp - 2) = loByte saved) ∧
      t.ticks = s.ticks + 11 ∧
      Frame [.pc, .wz, .sp, .nmiPending, .halted, .eiPending, .iff1, .r, .history, .ticks]
        [s.sp - 1, s.sp - 2] s t

/-- With no NMI latched, the INT line asserted, IFF1 set, no EI shadow, at a boundary: in mode 1 PC is
pushed and PC and WZ take 0x0038; in mode 2 PC is pushed and PC and WZ take the word read at I : data byte.
Both release HALT, clear both flip-flops and record the data byte before every bus access
(60_exceptions.md rules R507, R509, R510, R511). -/
def Obligations.VectoredInterrupts : Prop :=
  ∀ s : State, s.indexMode = .hl → s.nmiPending = false → s.intLine = true → s.iff1 = true →
    s.eiPending = false → s.im ≠ .im0 → ∃ t,
    step s = .next t ∧
      let saved := if s.halted then s.pc + 1 else s.pc
      let events := [.write (s.sp - 2) (loByte saved), .write (s.sp - 1) (hiByte saved),
        Event.intAck s.intData] ++ s.history
      let pushed := { s with
        mem := Memory.write (Memory.write s.mem (s.sp - 1).toNat (hiByte saved)) (s.sp - 2).toNat (loByte saved)
        history := events }
      let vector := pair s.i s.intData
      t.sp = s.sp - 2 ∧ t.halted = false ∧ t.eiPending = false ∧ t.iff1 = false ∧ t.iff2 = false ∧
      t.r.toNat = 128 * (s.r.toNat / 128) + (s.r.toNat % 128 + 1) % 128 ∧
      (s.im = .im1 →
        t.pc = 0x0038 ∧ t.wz = 0x0038 ∧ t.history = events ∧ t.ticks = s.ticks + 13) ∧
      (s.im = .im2 →
        t.pc = wordAt pushed vector ∧ t.wz = t.pc ∧
          t.history = wordReads pushed vector ++ events ∧ t.ticks = s.ticks + 19) ∧
      (Memory.wf s.mem = true →
        byteAt t (s.sp - 1) = hiByte saved ∧ byteAt t (s.sp - 2) = loByte saved) ∧
      Frame [.pc, .wz, .sp, .halted, .eiPending, .iff1, .iff2, .r, .history, .ticks]
        [s.sp - 1, s.sp - 2] s t

/-- In mode 0 the accepted data byte, when it is a main-table opcode of one byte that is no prefix and not
HALT, is executed under index mode HL with PC not advanced past it and no fetch event; any other data byte
refuses the step (60_exceptions.md rules R507, R508, R511, R512). -/
def Obligations.Im0Interrupt : Prop :=
  ∀ s : State, s.indexMode = .hl → s.nmiPending = false → s.intLine = true → s.iff1 = true →
    s.eiPending = false → s.im = .im0 →
      let v := s.intData
      let ready : State := { s with
        halted := false, pc := if s.halted then s.pc + 1 else s.pc
        r := (s.r &&& 0x80#8) ||| ((s.r + 1) &&& 0x7F#8)
        eiPending := false, iff1 := false, iff2 := false
        history := Event.intAck v :: s.history, ticks := s.ticks + 2 }
      (instrLength .hl v 0 = 1 ∧ v ≠ 0xDD ∧ v ≠ 0xFD ∧ v ≠ 0x76 →
        step s = exec (decodeFetched .hl [v]) ready ∧ ∃ t, step s = .next t) ∧
      (¬ (instrLength .hl v 0 = 1 ∧ v ≠ 0xDD ∧ v ≠ 0xFD ∧ v ≠ 0x76) →
        step s = .refused (.im0Data v))

/-- A pending prefix holds off every interrupt, and otherwise the NMI comes before the maskable interrupt,
which is taken only with the line asserted, IFF1 set and no EI shadow; else the step decodes normally
(60_exceptions.md rules R500, R502, R505). -/
def Obligations.InterruptPriority : Prop :=
  ∀ s : State,
    let run := exec (decodeFetched s.indexMode s.fetchBytes.1) s.fetched
    (s.indexMode ≠ .hl → step s = run) ∧
    (s.indexMode = .hl → s.nmiPending = true → step s = .next s.acceptNmi) ∧
    (s.indexMode = .hl → s.nmiPending = false → s.intLine = true → s.iff1 = true →
      s.eiPending = false → step s = s.acceptInt s.intData) ∧
    (s.indexMode = .hl → s.nmiPending = false →
      s.intLine = false ∨ s.iff1 = false ∨ s.eiPending = true → step s = run)

/-- After a step that executes EI the next step takes no maskable interrupt, whatever the host presents,
and after a prefix step it takes neither a maskable interrupt nor an NMI; a step that executes any other
instruction leaves no EI shadow (48_cpu_control.md rules R433, R436; 60_exceptions.md rules R502, R505). -/
def Obligations.EiShadowAndPrefixHoldOffInterrupts : Prop :=
  ∀ (s t : State) (line : Bool) (data : Byte), s.takesNmi = false → s.takesInt = false →
    step s = .next t →
      let p := decodeOp s.indexMode s.fetchBytes.1
      let u := t.presentInt line data
      (p = .ei → t.eiPending = true ∧ u.takesInt = false) ∧
      ((∃ x m, p = .index x m) →
        t.indexMode ≠ .hl ∧ u.takesInt = false ∧ u.requestNmi.takesNmi = false) ∧
      (p ≠ .ei → (∀ x m, p ≠ .index x m) → t.eiPending = false ∧ t.indexMode = .hl)

/-- Under `BUS_MODEL = ram` a halted core that accepts no interrupt executes HALT again: R counts once,
`ticks` adds 4, one M1 fetch is recorded, and every other register and memory is unchanged
(48_cpu_control.md rule R431, 60_exceptions.md rule R521). -/
def Obligations.HaltedCoreRepeatsHalt : Prop :=
  ∀ s : State, Inv s → s.halted = true → s.params.busModel = .ram → s.takesNmi = false →
    s.takesInt = false → ∃ t,
    step s = .next t ∧
      t.r.toNat = 128 * (s.r.toNat / 128) + (s.r.toNat % 128 + 1) % 128 ∧
      t.ticks = s.ticks + 4 ∧ t.history = .fetch s.pc 0x76 true :: s.history ∧
      t.eiPending = false ∧ endOfRun t = true ∧
      Frame [.r, .ticks, .history, .eiPending] [] s t

/-! ### What only some instructions write -/

/-- Each control register is written only by its own instructions: the shadow A′ F′ by EX AF,AF′; the
other shadow registers by EXX; IM by IM; I by LD I,A; R by LD R,A (10_state.md rules R32, R36, R37, R42). -/
def Obligations.ControlRegistersHaveOwnWriters : Prop :=
  ∀ (p : Op) (s t : State), exec p.toInstr s = .next t →
    (p ≠ .exAf → t.shadow.a = s.shadow.a ∧ t.shadow.f = s.shadow.f) ∧
    (p ≠ .exx →
      t.shadow.b = s.shadow.b ∧ t.shadow.c = s.shadow.c ∧ t.shadow.d = s.shadow.d ∧
        t.shadow.e = s.shadow.e ∧ t.shadow.h = s.shadow.h ∧ t.shadow.l = s.shadow.l) ∧
    ((∀ y, p ≠ .ed (.im y)) → (∀ x y, p ≠ .edUnder x (.im y)) → t.im = s.im) ∧
    (p ≠ .ed .ldIA → (∀ x, p ≠ .edUnder x .ldIA) → t.i = s.i) ∧
    (p ≠ .ed .ldRA → (∀ x, p ≠ .edUnder x .ldRA) → t.r = s.r)

/-- The interrupt flip-flops are written only by EI and DI and, IFF1 alone and from IFF2, by RETI and RETN,
plain or behind a discarded prefix (10_state.md rule R41, 48_cpu_control.md rule R438); no instruction writes the NMI latch (60_exceptions.md rule R503), the presented
interrupt inputs or the parameters; `halted` is only set, by HALT. -/
def Obligations.InstructionsLeaveInterruptStateAlone : Prop :=
  ∀ (i : Instr) (s t : State), exec i s = .next t →
    t.nmiPending = s.nmiPending ∧ t.intLine = s.intLine ∧ t.intData = s.intData ∧
    t.params = s.params ∧
    (i ≠ .ei → i ≠ .di →
      t.iff2 = s.iff2 ∧ t.iff1 = if returnsFromHandler i then s.iff2 else s.iff1) ∧
    (i ≠ .ei → t.eiPending = s.eiPending) ∧ (i ≠ .halt → t.halted = s.halted)

/-- Every instruction only adds events to the history and T-states to `ticks`; the RETI pulse is among the
added events only for RETI, and then once (60_exceptions.md rule R520). -/
def Obligations.HistoryGrowsAndRetiPulses : Prop :=
  ∀ (p : Op) (s t : State), exec p.toInstr s = .next t →
    ∃ new, t.history = new ++ s.history ∧ s.ticks < t.ticks ∧
      new.count Event.signalReti =
        if p ∈ [Op.ed .reti, .edUnder .ix .reti, .edUnder .iy .reti] then 1 else 0

/-- Every instruction adds the T-states of the table of 70_reset_and_hazards.md rule R608, accounted as
rule R609 says. -/
def Obligations.ElapsedTStates : Prop :=
  ∀ (p : Op) (s : State), ∃ t, exec p.toInstr s = .next t ∧ t.ticks = s.ticks + tStates p s

/-! ### Memory -/

/-- Under `BUS_MODEL = ram` a read answers the byte last written at its address; a write changes no other
byte and keeps memory canonical; and equal contents are equal memories (20_memory.md rules R70, R72,
R82). -/
def Obligations.MemoryReadsWhatWasWritten : Prop :=
  (∀ (s : State) (a : Word) (v : Byte), Memory.wf s.mem = true → s.params.busModel = .ram →
    (s.writeMem a v).busByte a = v ∧ Memory.wf (s.writeMem a v).mem = true ∧
      ∀ b, b ≠ a → (s.writeMem a v).busByte b = s.busByte b) ∧
  (∀ m n : Memory, Memory.wf m = true → Memory.wf n = true →
    (∀ a, Memory.read m a = Memory.read n a) → m = n)

/-! ### 8-bit loads -/

/-- LD r,r′ and LD r,n, with the index halves: the destination takes the source, every flag and every
other register is kept (40_load8.md rules R200, R201, R214, R215). -/
def Obligations.RegisterLoads : Prop :=
  ∀ (m : IndexMode) (y z : Reg8) (n : Byte) (s : State),
    (∃ t, exec (Op.ld m y z).toInstr s = .next t ∧
      t.getLoc (rowLoc m y) = s.getLoc (rowLoc m z) ∧
      Frame [partLoc (rowLoc m y), .ticks] [] s t) ∧
    (∃ t, exec (Op.ldImm m y n).toInstr s = .next t ∧ t.getLoc (rowLoc m y) = n ∧
      Frame [partLoc (rowLoc m y), .ticks] [] s t)

/-- LD r,(HL), LD r,(IX+d), LD r,(IY+d): r takes the byte read once at the effective address, WZ takes
that address in the indexed forms only (40_load8.md rules R202, R203). -/
def Obligations.MemoryLoads : Prop :=
  ∀ (o : MemOp) (y : Reg8) (s : State), ∃ t,
    exec (Op.ldFrom o y).toInstr s = .next t ∧
      t.get8 y = s.busByte (addressOf s o) ∧ t.wz = wzAfter s o ∧
      t.history = .read (addressOf s o) (s.busByte (addressOf s o)) :: s.history ∧
      Frame [part8 y, .wz, .history, .ticks] [] s t

/-- LD (HL),r, LD (m+d),r, LD (HL),n, LD (m+d),n: the byte at the effective address takes the source by
one write, WZ as in the loads (40_load8.md rules R204 to R207). -/
def Obligations.ByteStores : Prop :=
  ∀ (o : MemOp) (z : Reg8) (n : Byte) (s : State),
    ∀ pv ∈ [(Op.ldTo o z, s.get8 z), (Op.ldToImm o n, n)], ∃ t,
      exec pv.1.toInstr s = .next t ∧
        (Memory.wf s.mem = true → byteAt t (addressOf s o) = pv.2) ∧ t.wz = wzAfter s o ∧
        t.history = .write (addressOf s o) pv.2 :: s.history ∧
        Frame [.wz, .history, .ticks] [addressOf s o] s t

/-- LD A,(BC), LD A,(DE), LD A,(nn): A takes the byte, WZ the address plus 1. LD (BC),A, LD (DE),A,
LD (nn),A: the byte takes A, WZ's low byte the low address byte plus 1, its high byte A
(40_load8.md rules R208 to R213). -/
def Obligations.AccumulatorTransfers : Prop :=
  ∀ (nn : Word) (s : State),
    (∀ pa ∈ [(Op.ldAFromBC, s.bc), (Op.ldAFromDE, s.de), (Op.ldAFromNn nn, nn)], ∃ t,
      exec pa.1.toInstr s = .next t ∧ t.main.a = s.busByte pa.2 ∧ t.wz = pa.2 + 1 ∧
        t.history = .read pa.2 (s.busByte pa.2) :: s.history ∧
        Frame [.a, .wz, .history, .ticks] [] s t) ∧
    (∀ pa ∈ [(Op.ldAToBC, s.bc), (Op.ldAToDE, s.de), (Op.ldAToNn nn, nn)], ∃ t,
      exec pa.1.toInstr s = .next t ∧
        (Memory.wf s.mem = true → byteAt t pa.2 = s.main.a) ∧
        t.wz.toNat = 256 * s.main.a.toNat + (pa.2.toNat % 256 + 1) % 256 ∧
        t.history = .write pa.2 s.main.a :: s.history ∧
        Frame [.wz, .history, .ticks] [pa.2] s t)

/-- LD A,I and LD A,R load A and set S, Z, Y, X from the byte, H and N to 0 and PV to IFF2, C kept;
LD I,A and LD R,A write all eight bits and no flag (40_load8.md rules R216 to R219). -/
def Obligations.SpecialRegisterLoads : Prop :=
  ∀ s : State,
    (∀ pv ∈ [(Op.ed .ldAI, s.i), (Op.ed .ldAR, s.r)], ∃ t,
      exec pv.1.toInstr s = .next t ∧ t.main.a = pv.2 ∧
        flagBits t.main.f =
          { s := pv.2.getLsbD 7, z := pv.2 == 0, y := pv.2.getLsbD 5, h := false
            x := pv.2.getLsbD 3, pv := s.iff2, n := false, c := (flagBits s.main.f).c } ∧
        Frame [.a, .f, .ticks] [] s t) ∧
    (∃ t, exec (Op.ed .ldIA).toInstr s = .next t ∧ t.i = s.main.a ∧ Frame [.i, .ticks] [] s t) ∧
    (∃ t, exec (Op.ed .ldRA).toInstr s = .next t ∧ t.r = s.main.a ∧ Frame [.r, .ticks] [] s t)

/-! ### 16-bit loads, the stack and the exchanges -/

/-- LD rp,nn; LD rp,(nn) with the low byte from nn and the high byte from nn + 1, WZ taking nn + 1;
LD SP,HL, LD SP,IX, LD SP,IY (41_load16_exchange.md rules R230 to R233, R236, R238, R239). -/
def Obligations.WordLoads : Prop :=
  ∀ (m : IndexMode) (p : Rp) (nn : Word) (s : State),
    (∃ t, exec (Op.ld16Imm m p nn).toInstr s = .next t ∧ t.get16 (rpReg m p) = nn ∧
      Frame (.ticks :: parts16 (rpReg m p)) [] s t) ∧
    (∀ pk ∈ [(Op.ld16From m nn, modeReg m), (Op.ed (.load p nn), rpReg .hl p)], ∃ t,
      exec pk.1.toInstr s = .next t ∧ t.get16 pk.2 = wordAt s nn ∧ t.wz = nn + 1 ∧
        t.history = wordReads s nn ++ s.history ∧
        Frame ([.wz, .history, .ticks] ++ parts16 pk.2) [] s t) ∧
    (∃ t, exec (Op.ldSp m).toInstr s = .next t ∧ t.sp = s.get16 (modeReg m) ∧
      Frame [.sp, .ticks] [] s t)

/-- LD (nn),HL, LD (nn),IX, LD (nn),IY and the ED forms: the low byte is written at nn, then the high byte
at nn + 1, and WZ takes nn + 1 (41_load16_exchange.md rules R234, R235, R237). -/
def Obligations.WordStores : Prop :=
  ∀ (m : IndexMode) (p : Rp) (nn : Word) (s : State),
    ∀ pk ∈ [(Op.ld16To m nn, modeReg m), (Op.ed (.store p nn), rpReg .hl p)], ∃ t,
      exec pk.1.toInstr s = .next t ∧
        (Memory.wf s.mem = true →
          byteAt t nn = loByte (s.get16 pk.2) ∧ byteAt t (nn + 1) = hiByte (s.get16 pk.2)) ∧
        t.wz = nn + 1 ∧
        t.history = .write (nn + 1) (hiByte (s.get16 pk.2)) ::
          .write nn (loByte (s.get16 pk.2)) :: s.history ∧
        Frame [.wz, .history, .ticks] [nn, nn + 1] s t

/-- PUSH writes the high byte at SP - 1, then the low byte at SP - 2, and SP ends 2 lower; POP reads the
low byte at SP and the high byte at SP + 1, and SP ends 2 higher (41_load16_exchange.md rules R240 to
R243, 20_memory.md rule R75). -/
def Obligations.PushAndPop : Prop :=
  ∀ (m : IndexMode) (p : Rp2) (s : State),
    (∃ t, exec (Op.push m p).toInstr s = .next t ∧ t.sp = s.sp - 2 ∧
      (Memory.wf s.mem = true →
        byteAt t (s.sp - 1) = hiByte (s.get16 (rp2Reg m p)) ∧
          byteAt t (s.sp - 2) = loByte (s.get16 (rp2Reg m p))) ∧
      t.history = .write (s.sp - 2) (loByte (s.get16 (rp2Reg m p))) ::
        .write (s.sp - 1) (hiByte (s.get16 (rp2Reg m p))) :: s.history ∧
      Frame [.sp, .history, .ticks] [s.sp - 1, s.sp - 2] s t) ∧
    (∃ t, exec (Op.pop m p).toInstr s = .next t ∧ t.sp = s.sp + 2 ∧
      t.get16 (rp2Reg m p) = wordAt s s.sp ∧ t.history = wordReads s s.sp ++ s.history ∧
      Frame ([.sp, .history, .ticks] ++ parts16 (rp2Reg m p)) [] s t)

/-- EX DE,HL; EX AF,AF′; EXX exchange their registers, and nothing else changes
(41_load16_exchange.md rules R244 to R246). -/
def Obligations.Exchanges : Prop :=
  ∀ s : State,
    (∃ t, exec Op.exDeHl.toInstr s = .next t ∧ t.de = s.hl ∧ t.hl = s.de ∧
      Frame [.d, .e, .h, .l, .ticks] [] s t) ∧
    (∃ t, exec Op.exAf.toInstr s = .next t ∧
      t.main.a = s.shadow.a ∧ t.main.f = s.shadow.f ∧ t.shadow.a = s.main.a ∧ t.shadow.f = s.main.f ∧
      Frame [.a, .f, .a', .f', .ticks] [] s t) ∧
    (∃ t, exec Op.exx.toInstr s = .next t ∧
      t.main.b = s.shadow.b ∧ t.main.c = s.shadow.c ∧ t.main.d = s.shadow.d ∧ t.main.e = s.shadow.e ∧
      t.main.h = s.shadow.h ∧ t.main.l = s.shadow.l ∧
      t.shadow.b = s.main.b ∧ t.shadow.c = s.main.c ∧ t.shadow.d = s.main.d ∧ t.shadow.e = s.main.e ∧
      t.shadow.h = s.main.h ∧ t.shadow.l = s.main.l ∧
      Frame [.b, .c, .d, .e, .h, .l, .b', .c', .d', .e', .h', .l', .ticks] [] s t)

/-- EX (SP),HL, EX (SP),IX, EX (SP),IY: the word at SP is read low byte first, the register is written
high byte first at SP + 1 and then SP, the register and WZ take the word read, and SP is unchanged
(41_load16_exchange.md rules R247, R248). -/
def Obligations.StackExchange : Prop :=
  ∀ (m : IndexMode) (s : State), ∃ t,
    exec (Op.exSp m).toInstr s = .next t ∧
      t.get16 (modeReg m) = wordAt s s.sp ∧ t.wz = wordAt s s.sp ∧
      (Memory.wf s.mem = true →
        byteAt t s.sp = loByte (s.get16 (modeReg m)) ∧
          byteAt t (s.sp + 1) = hiByte (s.get16 (modeReg m))) ∧
      t.history = [.write s.sp (loByte (s.get16 (modeReg m))),
        .write (s.sp + 1) (hiByte (s.get16 (modeReg m)))] ++ wordReads s s.sp ++ s.history ∧
      Frame ([.wz, .history, .ticks] ++ parts16 (modeReg m)) [s.sp, s.sp + 1] s t

/-! ### 8-bit arithmetic and logic -/

/-- ADD A,s and ADC A,s for every source operand: A takes the sum modulo 256 with the carry in for ADC;
S, Z, Y, X from the result, H and C the carries out of bits 3 and 7, PV signed overflow, N = 0
(42_alu8.md rules R261, R266, R267). -/
def Obligations.Additions : Prop :=
  ∀ (withCarry : Bool) (p : Op) (o : Src8) (s : State),
    AluForm (if withCarry then .adc else .add) o p → ∃ t,
    exec p.toInstr s = .next t ∧
      let a := s.main.a
      let v := sourceByte s o
      let c := (withCarry && (flagBits s.main.f).c).toNat
      t.main.a.toNat = (a.toNat + v.toNat + c) % 256 ∧
      flagBits t.main.f =
        { s := t.main.a.getLsbD 7, z := t.main.a == 0, y := t.main.a.getLsbD 5
          h := decide (15 < a.toNat % 16 + v.toNat % 16 + c), x := t.main.a.getLsbD 3
          pv := a.getLsbD 7 == v.getLsbD 7 && t.main.a.getLsbD 7 != a.getLsbD 7
          n := false, c := decide (255 < a.toNat + v.toNat + c) } ∧
      t.wz = sourceWz s o ∧ t.history = sourceEvents s o ++ s.history ∧
      Frame [.a, .f, .wz, .history, .ticks] [] s t

/-- SUB s and SBC A,s for every source operand: A takes the difference modulo 256 with the borrow in for
SBC; H and C the borrows into bit 4 and out of bit 7, PV signed overflow, N = 1
(42_alu8.md rules R262, R268, R269). NEG is 0 - A (rule R280). -/
def Obligations.Subtractions : Prop :=
  (∀ (withCarry : Bool) (p : Op) (o : Src8) (s : State),
    AluForm (if withCarry then .sbc else .sub) o p → ∃ t,
    exec p.toInstr s = .next t ∧
      let a := s.main.a
      let v := sourceByte s o
      let c := (withCarry && (flagBits s.main.f).c).toNat
      (t.main.a.toNat : Int) = (a.toNat - v.toNat - c) % 256 ∧
      flagBits t.main.f =
        { s := t.main.a.getLsbD 7, z := t.main.a == 0, y := t.main.a.getLsbD 5
          h := decide (a.toNat % 16 < v.toNat % 16 + c), x := t.main.a.getLsbD 3
          pv := a.getLsbD 7 != v.getLsbD 7 && t.main.a.getLsbD 7 != a.getLsbD 7
          n := true, c := decide (a.toNat < v.toNat + c) } ∧
      t.wz = sourceWz s o ∧ t.history = sourceEvents s o ++ s.history ∧
      Frame [.a, .f, .wz, .history, .ticks] [] s t) ∧
  (∀ (y : Fin 8) (s : State), ∃ t,
    exec (Op.ed (.neg y)).toInstr s = .next t ∧
      (t.main.a.toNat : Int) = (-s.main.a.toNat) % 256 ∧
      flagBits t.main.f =
        { s := t.main.a.getLsbD 7, z := t.main.a == 0, y := t.main.a.getLsbD 5
          h := decide (0 < s.main.a.toNat % 16), x := t.main.a.getLsbD 3
          pv := s.main.a == 0x80, n := true, c := s.main.a != 0 } ∧
      Frame [.a, .f, .ticks] [] s t)

/-- CP s for every source operand: A is kept, the flags are those of the difference, Y and X from the
result or from the operand as `CP_XY_SOURCE` says (42_alu8.md rules R262, R273). -/
def Obligations.Comparisons : Prop :=
  ∀ (p : Op) (o : Src8) (s : State), AluForm .cp o p → ∃ t,
    exec p.toInstr s = .next t ∧
      let a := s.main.a
      let v := sourceByte s o
      let xy := match s.params.cpXy with
        | .result => a - v
        | .operand => v
      flagBits t.main.f =
        { s := (a - v).getLsbD 7, z := a == v, y := xy.getLsbD 5
          h := decide (a.toNat % 16 < v.toNat % 16), x := xy.getLsbD 3
          pv := a.getLsbD 7 != v.getLsbD 7 && (a - v).getLsbD 7 != a.getLsbD 7
          n := true, c := decide (a.toNat < v.toNat) } ∧
      t.wz = sourceWz s o ∧ t.history = sourceEvents s o ++ s.history ∧
      Frame [.f, .wz, .history, .ticks] [] s t

/-- AND s, XOR s, OR s for every source operand: A takes the bitwise result; S, Z, Y, X from it, PV its
even parity, H = 1 for AND only, N = C = 0 (42_alu8.md rules R260, R263, R270 to R272). -/
def Obligations.LogicOperations : Prop :=
  ∀ (k : AluOp) (p : Op) (o : Src8) (s : State), k = .and ∨ k = .xor ∨ k = .or → AluForm k o p → ∃ t,
    exec p.toInstr s = .next t ∧
      let v := sourceByte s o
      t.main.a = (match k with
        | .and => s.main.a &&& v
        | .xor => s.main.a ^^^ v
        | _ => s.main.a ||| v) ∧
      flagBits t.main.f =
        { s := t.main.a.getLsbD 7, z := t.main.a == 0, y := t.main.a.getLsbD 5, h := k == .and
          x := t.main.a.getLsbD 3, pv := evenParity t.main.a, n := false, c := false } ∧
      t.wz = sourceWz s o ∧ t.history = sourceEvents s o ++ s.history ∧
      Frame [.a, .f, .wz, .history, .ticks] [] s t

/-- INC and DEC of a register or index half: plus or minus 1 modulo 256; H on a carry out of bit 3 or a
borrow into bit 4, PV at 0x7F or 0x80, N = 0 or 1, C kept (42_alu8.md rules R264, R265, R274, R276). -/
def Obligations.IncDecRegister : Prop :=
  ∀ (m : IndexMode) (y : Reg8) (s : State),
    let v := s.getLoc (rowLoc m y)
    (∃ t, exec (Op.incReg m y).toInstr s = .next t ∧
      let r := t.getLoc (rowLoc m y)
      r.toNat = (v.toNat + 1) % 256 ∧
      flagBits t.main.f =
        { s := r.getLsbD 7, z := r == 0, y := r.getLsbD 5, h := decide (v.toNat % 16 = 15)
          x := r.getLsbD 3, pv := v == 0x7F, n := false, c := (flagBits s.main.f).c } ∧
      Frame [partLoc (rowLoc m y), .f, .ticks] [] s t) ∧
    (∃ t, exec (Op.decReg m y).toInstr s = .next t ∧
      let r := t.getLoc (rowLoc m y)
      r.toNat = (v.toNat + 255) % 256 ∧
      flagBits t.main.f =
        { s := r.getLsbD 7, z := r == 0, y := r.getLsbD 5, h := decide (v.toNat % 16 = 0)
          x := r.getLsbD 3, pv := v == 0x80, n := true, c := (flagBits s.main.f).c } ∧
      Frame [partLoc (rowLoc m y), .f, .ticks] [] s t)

/-- INC and DEC of (HL), (IX+d), (IY+d): one read and one write at the one resolved address, the flags of
the register forms (42_alu8.md rules R264, R265, R275, R277; 20_memory.md rule R78). -/
def Obligations.IncDecMemory : Prop :=
  ∀ (o : MemOp) (s : State),
    let ea := addressOf s o
    let v := s.busByte ea
    (∃ t, exec (Op.incMem o).toInstr s = .next t ∧
      (Memory.wf s.mem = true → byteAt t ea = v + 1) ∧
      flagBits t.main.f =
        { s := (v + 1).getLsbD 7, z := v + 1 == 0, y := (v + 1).getLsbD 5
          h := decide (v.toNat % 16 = 15), x := (v + 1).getLsbD 3, pv := v == 0x7F, n := false
          c := (flagBits s.main.f).c } ∧
      t.wz = wzAfter s o ∧ t.history = .write ea (v + 1) :: .read ea v :: s.history ∧
      Frame [.f, .wz, .history, .ticks] [ea] s t) ∧
    (∃ t, exec (Op.decMem o).toInstr s = .next t ∧
      (Memory.wf s.mem = true → byteAt t ea = v - 1) ∧
      flagBits t.main.f =
        { s := (v - 1).getLsbD 7, z := v - 1 == 0, y := (v - 1).getLsbD 5
          h := decide (v.toNat % 16 = 0), x := (v - 1).getLsbD 3, pv := v == 0x80, n := true
          c := (flagBits s.main.f).c } ∧
      t.wz = wzAfter s o ∧ t.history = .write ea (v - 1) :: .read ea v :: s.history ∧
      Frame [.f, .wz, .history, .ticks] [ea] s t)

/-- DAA adds, or after a subtraction takes away, 0x06 and 0x60 as the digits and the flags ask; C is set
exactly when 0x60 was applied, PV is the parity, N is kept (42_alu8.md rule R278). -/
def Obligations.DecimalAdjust : Prop :=
  ∀ s : State, ∃ t,
    exec Op.daa.toInstr s = .next t ∧
      let a := s.main.a.toNat
      let f := flagBits s.main.f
      let low := f.h || decide (9 < a % 16)
      let high := f.c || decide (0x99 < a)
      let diff := (if low then 0x06 else 0) + (if high then 0x60 else 0)
      t.main.a.toNat = (if f.n then a + 256 - diff else a + diff) % 256 ∧
      flagBits t.main.f =
        { s := t.main.a.getLsbD 7, z := t.main.a == 0, y := t.main.a.getLsbD 5
          h := s.main.a.getLsbD 4 != t.main.a.getLsbD 4, x := t.main.a.getLsbD 3
          pv := evenParity t.main.a, n := f.n, c := high } ∧
      Frame [.a, .f, .ticks] [] s t

/-- CPL complements A and sets H and N; SCF sets C; CCF complements C and moves the old C to H; all three
take Y and X from A and keep S, Z and PV (42_alu8.md rules R279, R281, R282). -/
def Obligations.AccumulatorAndCarryOps : Prop :=
  ∀ s : State,
    let f := flagBits s.main.f
    (∃ t, exec Op.cpl.toInstr s = .next t ∧ t.main.a = ~~~s.main.a ∧
      flagBits t.main.f =
        { f with y := t.main.a.getLsbD 5, h := true, x := t.main.a.getLsbD 3, n := true } ∧
      Frame [.a, .f, .ticks] [] s t) ∧
    (∃ t, exec Op.scf.toInstr s = .next t ∧
      flagBits t.main.f =
        { f with y := s.main.a.getLsbD 5, h := false, x := s.main.a.getLsbD 3, n := false, c := true } ∧
      Frame [.f, .ticks] [] s t) ∧
    (∃ t, exec Op.ccf.toInstr s = .next t ∧
      flagBits t.main.f =
        { f with y := s.main.a.getLsbD 5, h := f.c, x := s.main.a.getLsbD 3, n := false, c := !f.c } ∧
      Frame [.f, .ticks] [] s t)

/-! ### 16-bit arithmetic -/

/-- ADD HL,rp, ADD IX,rp, ADD IY,rp: the sum modulo 65,536; H and C the carries out of bits 11 and 15, Y
and X bits 13 and 11 of the result, N = 0, S, Z and PV kept; WZ takes the old register plus 1
(43_alu16.md rules R300, R303, R304). -/
def Obligations.WordAdditions : Prop :=
  ∀ (m : IndexMode) (p : Rp) (s : State), ∃ t,
    exec (Op.add16 m p).toInstr s = .next t ∧
      let a := s.get16 (modeReg m)
      let b := s.get16 (rpReg m p)
      let r := t.get16 (modeReg m)
      r.toNat = (a.toNat + b.toNat) % 65536 ∧
      flagBits t.main.f =
        { flagBits s.main.f with
          y := r.getLsbD 13, h := decide (4095 < a.toNat % 4096 + b.toNat % 4096), x := r.getLsbD 11
          n := false, c := decide (65535 < a.toNat + b.toNat) } ∧
      t.wz = a + 1 ∧ Frame ([.f, .wz, .ticks] ++ parts16 (modeReg m)) [] s t

/-- ADC HL,rp and SBC HL,rp: HL plus or minus the register and C; S, Y, X from the result's high byte, Z
from all 16 bits, H and C the carries or borrows, PV signed overflow, N = 0 or 1; WZ takes the old HL
plus 1 (43_alu16.md rules R301, R302, R305, R306). -/
def Obligations.WordAddSubWithCarry : Prop :=
  ∀ (p : Rp) (s : State),
    let a := s.hl
    let b := s.get16 (rpReg .hl p)
    let c := (flagBits s.main.f).c.toNat
    (∃ t, exec (Op.ed (.adcHL p)).toInstr s = .next t ∧
      t.hl.toNat = (a.toNat + b.toNat + c) % 65536 ∧
      flagBits t.main.f =
        { s := t.hl.getLsbD 15, z := t.hl == 0, y := t.hl.getLsbD 13
          h := decide (4095 < a.toNat % 4096 + b.toNat % 4096 + c), x := t.hl.getLsbD 11
          pv := a.getLsbD 15 == b.getLsbD 15 && t.hl.getLsbD 15 != a.getLsbD 15
          n := false, c := decide (65535 < a.toNat + b.toNat + c) } ∧
      t.wz = a + 1 ∧ Frame [.h, .l, .f, .wz, .ticks] [] s t) ∧
    (∃ t, exec (Op.ed (.sbcHL p)).toInstr s = .next t ∧
      (t.hl.toNat : Int) = (a.toNat - b.toNat - c) % 65536 ∧
      flagBits t.main.f =
        { s := t.hl.getLsbD 15, z := t.hl == 0, y := t.hl.getLsbD 13
          h := decide (a.toNat % 4096 < b.toNat % 4096 + c), x := t.hl.getLsbD 11
          pv := a.getLsbD 15 != b.getLsbD 15 && t.hl.getLsbD 15 != a.getLsbD 15
          n := true, c := decide (a.toNat < b.toNat + c) } ∧
      t.wz = a + 1 ∧ Frame [.h, .l, .f, .wz, .ticks] [] s t)

/-- INC and DEC of a 16-bit register: plus or minus 1 modulo 65,536, no flag
(43_alu16.md rules R307 to R310). -/
def Obligations.IncDecWord : Prop :=
  ∀ (m : IndexMode) (p : Rp) (s : State),
    (∃ t, exec (Op.inc16 m p).toInstr s = .next t ∧
      (t.get16 (rpReg m p)).toNat = ((s.get16 (rpReg m p)).toNat + 1) % 65536 ∧
      Frame (.ticks :: parts16 (rpReg m p)) [] s t) ∧
    (∃ t, exec (Op.dec16 m p).toInstr s = .next t ∧
      (t.get16 (rpReg m p)).toNat = ((s.get16 (rpReg m p)).toNat + 65535) % 65536 ∧
      Frame (.ticks :: parts16 (rpReg m p)) [] s t)

/-! ### Rotates, shifts and bits -/

/-- RLCA, RRCA, RLA, RRA: A rotated, C the bit moved out, H = N = 0, Y and X from the new A, and S, Z and
PV kept (44_rotate_shift_bit.md rules R320 to R323). -/
def Obligations.AccumulatorRotates : Prop :=
  ∀ s : State, ∀ pk ∈ [(Op.rlca, RotOp.rlc), (Op.rrca, RotOp.rrc), (Op.rla, RotOp.rl), (Op.rra, RotOp.rr)],
    ∃ t, exec pk.1.toInstr s = .next t ∧
      t.main.a.toNat = rotated pk.2 s.main.a.toNat (flagBits s.main.f).c ∧
      flagBits t.main.f =
        { flagBits s.main.f with
          y := t.main.a.getLsbD 5, h := false, x := t.main.a.getLsbD 3, n := false
          c := shiftedOut pk.2 s.main.a } ∧
      Frame [.a, .f, .ticks] [] s t

/-- The eight CB rotates and shifts of a register and of (HL), the result by the table of
44_rotate_shift_bit.md rule R324, all flags written (rules R325 to R333). -/
def Obligations.RotatesAndShifts : Prop :=
  ∀ (k : RotOp) (z : Reg8) (s : State),
    let c := (flagBits s.main.f).c
    (∃ t, exec (Op.rotReg k z).toInstr s = .next t ∧
      (t.get8 z).toNat = rotated k (s.get8 z).toNat c ∧
      flagBits t.main.f = rotFlags (t.get8 z) (shiftedOut k (s.get8 z)) ∧
      Frame [part8 z, .f, .ticks] [] s t) ∧
    (∃ t r, exec (Op.rotHL k).toInstr s = .next t ∧
      r.toNat = rotated k (s.busByte s.hl).toNat c ∧
      (Memory.wf s.mem = true → byteAt t s.hl = r) ∧
      flagBits t.main.f = rotFlags r (shiftedOut k (s.busByte s.hl)) ∧
      t.history = .write s.hl r :: .read s.hl (s.busByte s.hl) :: s.history ∧
      Frame [.f, .history, .ticks] [s.hl] s t)

/-- The indexed rotates and shifts work on the byte at m + d whatever the z field is, write it back, set
the flags of the plain forms, set WZ to the address, and write r[z] too exactly when `DDCB_REG_COPY` says
so (44_rotate_shift_bit.md rules R340, R341). -/
def Obligations.IndexedRotates : Prop :=
  ∀ (m : IdxReg) (k : RotOp) (z : Option Reg8) (d : Byte) (s : State), ∃ t r,
    exec (Op.rotIdx m k z d).toInstr s = .next t ∧
      let ea := addressOf s (.atIdx m d)
      r.toNat = rotated k (s.busByte ea).toNat (flagBits s.main.f).c ∧
      (Memory.wf s.mem = true → byteAt t ea = r) ∧ t.wz = ea ∧
      flagBits t.main.f = rotFlags r (shiftedOut k (s.busByte ea)) ∧
      (∀ g, copyTarget s true z = some g → t.get8 g = r) ∧
      t.history = .write ea r :: .read ea (s.busByte ea) :: s.history ∧
      Frame ([.f, .wz, .history, .ticks] ++ ((copyTarget s true z).map part8).toList) [ea] s t

/-- BIT b of a register, of (HL) and of (m+d): Z and PV the complement of the bit, S the bit for b = 7, H
= 1, N = 0, C kept; Y and X from the register, from the byte or WZ's high byte as `BIT_HL_XY_SOURCE` says,
and from the address's high byte (44_rotate_shift_bit.md rules R334, R335, R342). -/
def Obligations.BitTests : Prop :=
  ∀ (b : Fin 8) (z : Reg8) (m : IdxReg) (k : Fin 8) (d : Byte) (s : State),
    let bits (v xy : Byte) : FlagBits :=
      { s := decide (b = 7) && v.getLsbD b, z := !v.getLsbD b, y := xy.getLsbD 5, h := true
        x := xy.getLsbD 3, pv := !v.getLsbD b, n := false, c := (flagBits s.main.f).c }
    (∃ t, exec (Op.bitReg b z).toInstr s = .next t ∧
      flagBits t.main.f = bits (s.get8 z) (s.get8 z) ∧ Frame [.f, .ticks] [] s t) ∧
    (∃ t, exec (Op.bitHL b).toInstr s = .next t ∧
      flagBits t.main.f = bits (s.busByte s.hl)
        (match s.params.bitHlXy with
          | .operand => s.busByte s.hl
          | .wzHigh => hiByte s.wz) ∧
      t.history = .read s.hl (s.busByte s.hl) :: s.history ∧
      Frame [.f, .history, .ticks] [] s t) ∧
    (∃ t, exec (Op.bitIdx m b k d).toInstr s = .next t ∧
      let ea := addressOf s (.atIdx m d)
      flagBits t.main.f = bits (s.busByte ea) (hiByte ea) ∧ t.wz = ea ∧
      t.history = .read ea (s.busByte ea) :: s.history ∧
      Frame [.f, .wz, .history, .ticks] [] s t)

/-- RES and SET of a register and of (HL): exactly bit b is cleared or set, no flag changes
(44_rotate_shift_bit.md rules R336 to R339). -/
def Obligations.ResetAndSetBits : Prop :=
  ∀ (on : Bool) (b : Fin 8) (z : Reg8) (s : State),
    (∃ t, exec (if on then Op.setReg b z else Op.resReg b z).toInstr s = .next t ∧
      (∀ j : Fin 8, (t.get8 z).getLsbD j = if j = b then on else (s.get8 z).getLsbD j) ∧
      Frame [part8 z, .ticks] [] s t) ∧
    (∃ t r, exec (if on then Op.setHL b else Op.resHL b).toInstr s = .next t ∧
      (∀ j : Fin 8, r.getLsbD j = if j = b then on else (s.busByte s.hl).getLsbD j) ∧
      (Memory.wf s.mem = true → byteAt t s.hl = r) ∧
      t.history = .write s.hl r :: .read s.hl (s.busByte s.hl) :: s.history ∧
      Frame [.history, .ticks] [s.hl] s t)

/-- Indexed RES and SET: exactly bit b of the byte at m + d is cleared or set, WZ takes the address, no
flag changes, and r[z] is written too exactly when `DDCB_REG_COPY` says so
(44_rotate_shift_bit.md rules R341, R343, R344). -/
def Obligations.IndexedResetAndSetBits : Prop :=
  ∀ (on : Bool) (m : IdxReg) (b : Fin 8) (z : Option Reg8) (d : Byte) (s : State), ∃ t r,
    exec (if on then Op.setIdx m b z d else Op.resIdx m b z d).toInstr s = .next t ∧
      let ea := addressOf s (.atIdx m d)
      (∀ j : Fin 8, r.getLsbD j = if j = b then on else (s.busByte ea).getLsbD j) ∧
      (Memory.wf s.mem = true → byteAt t ea = r) ∧ t.wz = ea ∧
      (∀ g, copyTarget s false z = some g → t.get8 g = r) ∧
      t.history = .write ea r :: .read ea (s.busByte ea) :: s.history ∧
      Frame ([.wz, .history, .ticks] ++ ((copyTarget s false z).map part8).toList) [ea] s t

/-- RLD and RRD rotate three nibbles through A's low nibble and the byte at HL; flags from the new A, C
kept; WZ takes HL + 1 (44_rotate_shift_bit.md rules R345, R346). -/
def Obligations.NibbleRotates : Prop :=
  ∀ (left : Bool) (s : State), ∃ t w,
    exec (Op.ed (if left then .rld else .rrd)).toInstr s = .next t ∧
      let v := (s.busByte s.hl).toNat
      let a := s.main.a.toNat
      w.toNat = (if left then v % 16 * 16 + a % 16 else a % 16 * 16 + v / 16) ∧
      t.main.a.toNat = a / 16 * 16 + (if left then v / 16 else v % 16) ∧
      (Memory.wf s.mem = true → byteAt t s.hl = w) ∧
      flagBits t.main.f =
        { s := t.main.a.getLsbD 7, z := t.main.a == 0, y := t.main.a.getLsbD 5, h := false
          x := t.main.a.getLsbD 3, pv := evenParity t.main.a, n := false, c := (flagBits s.main.f).c } ∧
      t.wz = s.hl + 1 ∧ t.history = .write s.hl w :: .read s.hl (s.busByte s.hl) :: s.history ∧
      Frame [.a, .f, .wz, .history, .ticks] [s.hl] s t

/-! ### Block instructions -/

/-- LDI, LDD, LDIR, LDDR: one byte moves from (HL) to (DE), HL and DE step, BC counts down, the flags of
45_block.md rule R360; a repeating form whose BC is not 0 goes back 2 bytes and sets WZ to PC + 1
(rules R364 to R368). -/
def Obligations.BlockTransfers : Prop :=
  ∀ (up rep : Bool) (s : State), ∃ t,
    exec (Op.ed (.block .ld up rep)).toInstr s = .next t ∧
      let v := s.busByte s.hl
      let step : Word := if up then 1 else -1
      let n := v + s.main.a
      let again := rep && s.bc != 1
      (Memory.wf s.mem = true → byteAt t s.de = v) ∧
      t.hl = s.hl + step ∧ t.de = s.de + step ∧ t.bc = s.bc - 1 ∧
      flagBits t.main.f =
        { flagBits s.main.f with
          y := n.getLsbD 1, h := false, x := n.getLsbD 3, pv := s.bc != 1, n := false } ∧
      t.pc = (if again then s.pc - 2 else s.pc) ∧ t.wz = (if again then s.pc - 1 else s.wz) ∧
      t.history = .write s.de v :: .read s.hl v :: s.history ∧
      Frame [.f, .b, .c, .d, .e, .h, .l, .pc, .wz, .history, .ticks] [s.de] s t

/-- CPI, CPD, CPIR, CPDR: A is compared with (HL), HL steps, BC counts down, WZ steps, the flags of
45_block.md rule R361; a repeating form goes back while BC is not 0 and no match was found
(rules R364, R369 to R372). -/
def Obligations.BlockCompares : Prop :=
  ∀ (up rep : Bool) (s : State), ∃ t,
    exec (Op.ed (.block .cp up rep)).toInstr s = .next t ∧
      let v := s.busByte s.hl
      let step : Word := if up then 1 else -1
      let half := decide (s.main.a.toNat % 16 < v.toNat % 16)
      let n := s.main.a - v - (if half then 1 else 0)
      let again := rep && s.bc != 1 && s.main.a != v
      t.hl = s.hl + step ∧ t.bc = s.bc - 1 ∧
      flagBits t.main.f =
        { s := (s.main.a - v).getLsbD 7, z := s.main.a == v, y := n.getLsbD 1, h := half
          x := n.getLsbD 3, pv := s.bc != 1, n := true, c := (flagBits s.main.f).c } ∧
      t.pc = (if again then s.pc - 2 else s.pc) ∧
      t.wz = (if again then s.pc - 1 else s.wz + step) ∧
      t.history = .read s.hl v :: s.history ∧
      Frame [.f, .b, .c, .h, .l, .pc, .wz, .history, .ticks] [] s t

/-- INI, IND, INIR, INDR read port B:C with the old B and store at (HL); OUTI, OUTD, OTIR, OTDR read (HL)
and write port B:C with the new B; HL steps, B counts down, WZ and the flags as 45_block.md rules R362 and
R363; a repeating form goes back while B is not 0 (rules R364, R373 to R380). -/
def Obligations.BlockInputOutput : Prop :=
  ∀ (up rep : Bool) (s : State),
    let step : Word := if up then 1 else -1
    let b := s.main.b - 1
    let again := rep && s.main.b != 1
    let bits (v : Byte) (k : Nat) : FlagBits :=
      { s := b.getLsbD 7, z := b == 0, y := b.getLsbD 5, h := decide (255 < k), x := b.getLsbD 3
        pv := evenParity (BitVec.ofNat 8 (k % 8) ^^^ b), n := v.getLsbD 7, c := decide (255 < k) }
    (∃ t, exec (Op.ed (.block .inp up rep)).toInstr s = .next t ∧
      let v := Config.ioRead s.history s.bc
      (Memory.wf s.mem = true → byteAt t s.hl = v) ∧
      t.main.b = b ∧ t.hl = s.hl + step ∧ t.wz = s.bc + step ∧
      flagBits t.main.f = bits v (v.toNat + (s.main.c.toNat + if up then 1 else 255) % 256) ∧
      t.pc = (if again then s.pc - 2 else s.pc) ∧
      t.history = .write s.hl v :: .input s.bc v :: s.history ∧
      Frame [.f, .b, .h, .l, .pc, .wz, .history, .ticks] [s.hl] s t) ∧
    (∃ t, exec (Op.ed (.block .outp up rep)).toInstr s = .next t ∧
      let v := s.busByte s.hl
      let port := pair b s.main.c
      t.main.b = b ∧ t.hl = s.hl + step ∧ t.wz = port + step ∧
      flagBits t.main.f = bits v (v.toNat + t.main.l.toNat) ∧
      t.pc = (if again then s.pc - 2 else s.pc) ∧
      t.history = .output port v :: .read s.hl v :: s.history ∧
      Frame [.f, .b, .h, .l, .pc, .wz, .history, .ticks] [] s t)

/-! ### Input and output -/

/-- IN A,(n) reads port A:n without flags; OUT (n),A writes A there; IN r,(C) and IN F,(C) read port BC
and set S, Z, Y, X, PV from the byte, H = N = 0, C kept; OUT (C),r and OUT (C),0 write there; WZ as the
rules say (46_io.md rules R385 to R390). -/
def Obligations.PortTransfers : Prop :=
  ∀ (n : Byte) (k : Reg8) (s : State),
    let bits (v : Byte) : FlagBits :=
      { s := v.getLsbD 7, z := v == 0, y := v.getLsbD 5, h := false, x := v.getLsbD 3
        pv := evenParity v, n := false, c := (flagBits s.main.f).c }
    (∃ t, exec (Op.inA n).toInstr s = .next t ∧
      let port := pair s.main.a n
      t.main.a = Config.ioRead s.history port ∧ t.wz = port + 1 ∧
      t.history = .input port (Config.ioRead s.history port) :: s.history ∧
      Frame [.a, .wz, .history, .ticks] [] s t) ∧
    (∃ t, exec (Op.outA n).toInstr s = .next t ∧
      t.wz.toNat = 256 * s.main.a.toNat + (n.toNat + 1) % 256 ∧
      t.history = .output (pair s.main.a n) s.main.a :: s.history ∧
      Frame [.wz, .history, .ticks] [] s t) ∧
    (∃ t, exec (Op.ed (.inReg k)).toInstr s = .next t ∧
      let v := Config.ioRead s.history s.bc
      t.get8 k = v ∧ flagBits t.main.f = bits v ∧ t.wz = s.bc + 1 ∧
      t.history = .input s.bc v :: s.history ∧
      Frame [part8 k, .f, .wz, .history, .ticks] [] s t) ∧
    (∃ t, exec (Op.ed .inF).toInstr s = .next t ∧
      let v := Config.ioRead s.history s.bc
      flagBits t.main.f = bits v ∧ t.wz = s.bc + 1 ∧ t.history = .input s.bc v :: s.history ∧
      Frame [.f, .wz, .history, .ticks] [] s t) ∧
    (∀ pv ∈ [(Op.ed (.outReg k), s.get8 k), (Op.ed .outZero, s.params.outCZero)], ∃ t,
      exec pv.1.toInstr s = .next t ∧ t.wz = s.bc + 1 ∧
        t.history = .output s.bc pv.2 :: s.history ∧ Frame [.wz, .history, .ticks] [] s t)

/-! ### Control flow -/

/-- JP nn, JP cc,nn, JR e, JR cc,e, DJNZ e, JP (HL), JP (IX), JP (IY): the target, when PC takes it, and
when WZ is written; no flag changes (47_control_flow.md rules R400 to R406). -/
def Obligations.Jumps : Prop :=
  ∀ (nn : Word) (k : Cond) (j : Fin 4) (e : Byte) (m : IndexMode) (s : State),
    let near := s.pc + e.signExtend 16
    (∃ t, exec (Op.jp nn).toInstr s = .next t ∧ t.pc = nn ∧ t.wz = nn ∧
      Frame [.pc, .wz, .ticks] [] s t) ∧
    (∃ t, exec (Op.jpCc k nn).toInstr s = .next t ∧
      t.pc = (if condition k s then nn else s.pc) ∧ t.wz = nn ∧ Frame [.pc, .wz, .ticks] [] s t) ∧
    (∃ t, exec (Op.jr e).toInstr s = .next t ∧ t.pc = near ∧ t.wz = near ∧
      Frame [.pc, .wz, .ticks] [] s t) ∧
    (∃ t, exec (Op.jrCc j e).toInstr s = .next t ∧
      let taken := condition (match j with | 0 => .nz | 1 => .z | 2 => .nc | 3 => .c) s
      t.pc = (if taken then near else s.pc) ∧ t.wz = (if taken then near else s.wz) ∧
      Frame [.pc, .wz, .ticks] [] s t) ∧
    (∃ t, exec (Op.djnz e).toInstr s = .next t ∧ t.main.b = s.main.b - 1 ∧
      t.pc = (if s.main.b = 1 then s.pc else near) ∧ t.wz = (if s.main.b = 1 then s.wz else near) ∧
      Frame [.b, .pc, .wz, .ticks] [] s t) ∧
    (∃ t, exec (Op.jpReg m).toInstr s = .next t ∧ t.pc = s.get16 (modeReg m) ∧
      t.wz = s.get16 (modeReg m) ∧ Frame [.pc, .wz, .ticks] [] s t)

/-- CALL nn, RST and a taken CALL cc push PC high byte first and set PC and WZ to the target; an untaken
CALL cc only sets WZ (47_control_flow.md rules R407, R408, R413). -/
def Obligations.CallsAndRestarts : Prop :=
  ∀ (nn : Word) (k : Cond) (y : Fin 8) (s : State),
    (∀ pt ∈ [(Op.call nn, nn), (Op.rst y, BitVec.ofNat 16 (8 * y.val))] ++
        (if condition k s then [(Op.callCc k nn, nn)] else []), ∃ t,
      exec pt.1.toInstr s = .next t ∧ t.pc = pt.2 ∧ t.wz = pt.2 ∧ t.sp = s.sp - 2 ∧
        (Memory.wf s.mem = true →
          byteAt t (s.sp - 1) = hiByte s.pc ∧ byteAt t (s.sp - 2) = loByte s.pc) ∧
        t.history = .write (s.sp - 2) (loByte s.pc) :: .write (s.sp - 1) (hiByte s.pc) :: s.history ∧
        Frame [.pc, .wz, .sp, .history, .ticks] [s.sp - 1, s.sp - 2] s t) ∧
    (condition k s = false → ∃ t, exec (Op.callCc k nn).toInstr s = .next t ∧ t.wz = nn ∧
      Frame [.wz, .ticks] [] s t)

/-- RET, a taken RET cc, RETI and RETN pop PC, low byte first, and set WZ to it; RETI and RETN copy IFF2 to
IFF1, and RETI alone raises its pulse; an untaken RET cc changes nothing
(47_control_flow.md rules R409 to R412). -/
def Obligations.Returns : Prop :=
  ∀ (k : Cond) (y : Fin 8) (s : State),
    (∀ p ∈ [Op.ret] ++ (if condition k s then [Op.retCc k] else []), ∃ t,
      exec p.toInstr s = .next t ∧ t.pc = wordAt s s.sp ∧ t.wz = wordAt s s.sp ∧ t.sp = s.sp + 2 ∧
        t.history = wordReads s s.sp ++ s.history ∧
        Frame [.pc, .wz, .sp, .history, .ticks] [] s t) ∧
    (condition k s = false →
      ∃ t, exec (Op.retCc k).toInstr s = .next t ∧ Frame [.ticks] [] s t) ∧
    (∀ pe ∈ [(Op.ed .reti, [Event.signalReti]), (Op.ed (.retn y), [])], ∃ t,
      exec pe.1.toInstr s = .next t ∧ t.pc = wordAt s s.sp ∧ t.wz = wordAt s s.sp ∧ t.sp = s.sp + 2 ∧
        t.iff1 = s.iff2 ∧ t.history = pe.2 ++ wordReads s s.sp ++ s.history ∧
        Frame [.pc, .wz, .sp, .iff1, .history, .ticks] [] s t)

/-! ### CPU control and prefixes -/

/-- NOP and the ED no-ops change nothing; HALT sets `halted` and moves PC back to its byte; DI and EI clear
and set both flip-flops, EI starting its shadow; IM selects the mode 0, 0, 1, 2, 0, 0, 1, 2 of its y field
(48_cpu_control.md rules R430 to R435). -/
def Obligations.CpuControl : Prop :=
  ∀ (y : Fin 8) (op : Byte) (s : State),
    (∀ p ∈ [Op.nop, Op.ed (.noni op)], ∃ t, exec p.toInstr s = .next t ∧ Frame [.ticks] [] s t) ∧
    (∃ t, exec Op.halt.toInstr s = .next t ∧ t.halted = true ∧ t.pc = s.pc - 1 ∧
      Frame [.halted, .pc, .ticks] [] s t) ∧
    (∃ t, exec Op.di.toInstr s = .next t ∧ t.iff1 = false ∧ t.iff2 = false ∧
      Frame [.iff1, .iff2, .ticks] [] s t) ∧
    (∃ t, exec Op.ei.toInstr s = .next t ∧ t.iff1 = true ∧ t.iff2 = true ∧ t.eiPending = true ∧
      Frame [.iff1, .iff2, .eiPending, .ticks] [] s t) ∧
    (∃ t, exec (Op.ed (.im y)).toInstr s = .next t ∧
      some t.im = [IntMode.im0, .im0, .im1, .im2, .im0, .im0, .im1, .im2][y.val]? ∧
      Frame [.im, .ticks] [] s t)

/-- A prefix step only sets the index mode, the last prefix winning; an ED instruction after a prefix does
exactly what it does without; and before an opcode it does not affect, EX DE,HL, EXX and HALT among them, a
prefix changes neither the instruction the bytes decode to, nor its length, nor what the step that fetches
it does, which leaves the index mode HL (48_cpu_control.md rules R436 to R438; 30_encoding.md rule R117
items 5 and 6). -/
def Obligations.PrefixSteps : Prop :=
  (∀ (x : IdxReg) (m : IndexMode) (s : State), ∃ t,
    exec (Op.index x m).toInstr s = .next t ∧
      t.indexMode = (match x with | .ix => .ix | .iy => .iy) ∧ Frame [.indexMode, .ticks] [] s t) ∧
  (∀ (x : IdxReg) (e : EdOp) (s : State), ∃ t,
    exec (Op.edUnder x e).toInstr s = .next t ∧ exec (Op.ed e).toInstr s = .next t) ∧
  (∀ (m : IndexMode) (op : Byte) (rest : List Byte), op ∉ prefixedOpcodes →
    decodeFetched m (op :: rest) = decodeFetched .hl (op :: rest) ∧
      ∀ b1, instrLength m op b1 = instrLength .hl op b1) ∧
  ∀ (m : IndexMode) (s : State), s.busByte s.pc ∉ prefixedOpcodes → ∃ t,
    ({ s with indexMode := m } : State).runInstruction = .next t ∧
      ({ s with indexMode := .hl } : State).runInstruction = .next t ∧ t.indexMode = .hl
end

