-- ==== Sys2Proof/Laws/Flags.lean ====
section
/-! SUPPORT. The flag byte bit by bit, and one law for each flag computation, in the terms of the spec's
integer formulas (42_alu8.md, 43_alu16.md, 44_rotate_shift_bit.md). -/

namespace Sys2Proof.Safety

open Sys2Proof.Machine

/-- The bits of a packed flag byte. -/
@[simp] theorem flagBits_packF (s z y h x pv n c : Bool) :
    flagBits (packF s z y h x pv n c) = ⟨s, z, y, h, x, pv, n, c⟩ := by
  cases s <;> cases z <;> cases y <;> cases h <;> cases x <;> cases pv <;> cases n <;> cases c <;> rfl

/-- A flag byte is the pack of its bits. -/
theorem packF_flagBits (f : Byte) :
    packF (flagBits f).s (flagBits f).z (flagBits f).y (flagBits f).h (flagBits f).x (flagBits f).pv
      (flagBits f).n (flagBits f).c = f := by
  apply BitVec.eq_of_getLsbD_eq
  intro i hi
  have h := flagBits_packF (flagBits f).s (flagBits f).z (flagBits f).y (flagBits f).h (flagBits f).x
    (flagBits f).pv (flagBits f).n (flagBits f).c
  match i, hi with
  | 0, _ => exact congrArg FlagBits.c h
  | 1, _ => exact congrArg FlagBits.n h
  | 2, _ => exact congrArg FlagBits.pv h
  | 3, _ => exact congrArg FlagBits.x h
  | 4, _ => exact congrArg FlagBits.h h
  | 5, _ => exact congrArg FlagBits.y h
  | 6, _ => exact congrArg FlagBits.z h
  | 7, _ => exact congrArg FlagBits.s h

/-- A property of every byte, from every number below 256. -/
theorem forall_byte {P : Byte → Prop} (h : ∀ n : Fin 256, P (BitVec.ofFin n)) (v : Byte) : P v :=
  h v.toFin

/-- `parity` is even parity (00_scope.md rule R7). -/
theorem parity_eq (v : Byte) : parity v = evenParity v := by
  revert v
  apply forall_byte
  decide +kernel

/-- Bit `i` of a bit vector as a number. -/
theorem getLsbD_eq (w : Nat) (v : BitVec w) (i : Nat) : v.getLsbD i = decide (v.toNat / 2 ^ i % 2 = 1) := by
  rw [BitVec.getLsbD, Nat.testBit_eq_decide_div_mod_eq]

/-- Bit `i` of the exclusive or of three bit vectors as numbers. -/
theorem xor3_bit {w : Nat} (a v r : BitVec w) (i : Nat) :
    (a ^^^ v ^^^ r).getLsbD i = decide ((a.toNat / 2 ^ i + v.toNat / 2 ^ i + r.toNat / 2 ^ i) % 2 = 1) := by
  rw [BitVec.getLsbD_xor, BitVec.getLsbD_xor, getLsbD_eq, getLsbD_eq, getLsbD_eq]
  rcases Nat.mod_two_eq_zero_or_one (a.toNat / 2 ^ i) with h1 | h1 <;>
  rcases Nat.mod_two_eq_zero_or_one (v.toNat / 2 ^ i) with h2 | h2 <;>
  rcases Nat.mod_two_eq_zero_or_one (r.toNat / 2 ^ i) with h3 | h3 <;>
  simp [h1, h2, h3, Nat.add_mod]

/-- A condition of table `cc` (30_encoding.md rule R104). -/
theorem condHolds_eq (k : Cond) (s : State) : condHolds k s.main.f = condition k s := by
  cases k <;> rfl

/-- `ADD8` in integers (42_alu8.md rule R261). -/
theorem add8_eq (a v : Byte) (c : Bool) :
    (add8 a v c).1.toNat = (a.toNat + v.toNat + c.toNat) % 256 ∧
      flagBits (add8 a v c).2 =
        { s := (add8 a v c).1.getLsbD 7, z := (add8 a v c).1 == 0, y := (add8 a v c).1.getLsbD 5
          h := decide (15 < a.toNat % 16 + v.toNat % 16 + c.toNat), x := (add8 a v c).1.getLsbD 3
          pv := a.getLsbD 7 == v.getLsbD 7 && (add8 a v c).1.getLsbD 7 != a.getLsbD 7
          n := false, c := decide (255 < a.toNat + v.toNat + c.toNat) } := by
  have hc : (carryIn c).toNat = c.toNat := by cases c <;> rfl
  have hc1 : c.toNat ≤ 1 := Bool.toNat_le c
  have ha := a.isLt
  have hv := v.isLt
  have hres : (a.setWidth 9 + v.setWidth 9 + carryIn c).toNat = a.toNat + v.toNat + c.toNat := by
    simp only [BitVec.toNat_add, BitVec.toNat_setWidth, hc]
    omega
  have hr : (add8 a v c).1.toNat = (a.toNat + v.toNat + c.toNat) % 256 := by
    show ((a.setWidth 9 + v.setWidth 9 + carryIn c).setWidth 8).toNat = _
    rw [BitVec.toNat_setWidth, hres]
  refine ⟨hr, ?_⟩
  generalize hw : (add8 a v c).1 = r at hr
  have hf : (add8 a v c).2 = packF (r.getLsbD 7) (r == 0) (r.getLsbD 5) ((a ^^^ v ^^^ r).getLsbD 4)
      (r.getLsbD 3) (((a ^^^ v ^^^ 0x80#8) &&& (v ^^^ r)).getLsbD 7) false
      ((a.setWidth 9 + v.setWidth 9 + carryIn c).getLsbD 8) := by
    rw [← hw]; rfl
  rw [hf, flagBits_packF]
  congr 1
  · rw [xor3_bit, hr, decide_eq_decide]
    omega
  · simp only [BitVec.getLsbD_xor, BitVec.getLsbD_and]
    cases a.getLsbD 7 <;> cases v.getLsbD 7 <;> cases r.getLsbD 7 <;> rfl
  · rw [getLsbD_eq, hres, decide_eq_decide]
    omega

/-- `SUB8` in integers (42_alu8.md rule R262). -/
theorem sub8_eq (a v : Byte) (c : Bool) :
    (sub8 a v c).1.toNat = (a.toNat + 512 - v.toNat - c.toNat) % 256 ∧
      flagBits (sub8 a v c).2 =
        { s := (sub8 a v c).1.getLsbD 7, z := (sub8 a v c).1 == 0, y := (sub8 a v c).1.getLsbD 5
          h := decide (a.toNat % 16 < v.toNat % 16 + c.toNat), x := (sub8 a v c).1.getLsbD 3
          pv := a.getLsbD 7 != v.getLsbD 7 && (sub8 a v c).1.getLsbD 7 != a.getLsbD 7
          n := true, c := decide (a.toNat < v.toNat + c.toNat) } := by
  have hc : (carryIn c).toNat = c.toNat := by cases c <;> rfl
  have hc1 : c.toNat ≤ 1 := Bool.toNat_le c
  have ha := a.isLt
  have hv := v.isLt
  have hres : (a.setWidth 9 - v.setWidth 9 - carryIn c).toNat =
      (a.toNat + 1024 - v.toNat - c.toNat) % 512 := by
    simp only [BitVec.toNat_sub, BitVec.toNat_setWidth, hc]
    omega
  have hr : (sub8 a v c).1.toNat = (a.toNat + 512 - v.toNat - c.toNat) % 256 := by
    show ((a.setWidth 9 - v.setWidth 9 - carryIn c).setWidth 8).toNat = _
    rw [BitVec.toNat_setWidth, hres]
    omega
  refine ⟨hr, ?_⟩
  generalize hw : (sub8 a v c).1 = r at hr
  have hf : (sub8 a v c).2 = packF (r.getLsbD 7) (r == 0) (r.getLsbD 5) ((a ^^^ v ^^^ r).getLsbD 4)
      (r.getLsbD 3) (((a ^^^ v) &&& (a ^^^ r)).getLsbD 7) true
      ((a.setWidth 9 - v.setWidth 9 - carryIn c).getLsbD 8) := by
    rw [← hw]; rfl
  rw [hf, flagBits_packF]
  congr 1
  · rw [xor3_bit, hr, decide_eq_decide]
    omega
  · simp only [BitVec.getLsbD_xor, BitVec.getLsbD_and]
    cases a.getLsbD 7 <;> cases v.getLsbD 7 <;> cases r.getLsbD 7 <;> rfl
  · rw [getLsbD_eq, hres, decide_eq_decide]
    omega

/-- `SUB8` without a borrow is the modular difference. -/
theorem sub8_fst (a v : Byte) : (sub8 a v false).1 = a - v := by
  apply BitVec.eq_of_toNat_eq
  rw [(sub8_eq a v false).1, BitVec.toNat_sub]
  have ha := a.isLt
  have hv := v.isLt
  simp only [Bool.toNat_false]
  omega

/-- The Y and X bits replaced by those of another byte. -/
theorem flagBits_mixXY (f v : Byte) :
    flagBits ((f &&& ~~~0x28#8) ||| (v &&& 0x28#8)) =
      { flagBits f with y := v.getLsbD 5, x := v.getLsbD 3 } := by
  simp only [flagBits, BitVec.getLsbD_or, BitVec.getLsbD_and, BitVec.getLsbD_not]
  simp

/-- The flags of CP (42_alu8.md rule R273). -/
theorem cpFlags_eq (src : CpXySource) (a v : Byte) :
    flagBits (cpFlags src a v) =
      let xy := match src with
        | .result => a - v
        | .operand => v
      { s := (a - v).getLsbD 7, z := a - v == 0, y := xy.getLsbD 5
        h := decide (a.toNat % 16 < v.toNat % 16), x := xy.getLsbD 3
        pv := a.getLsbD 7 != v.getLsbD 7 && (a - v).getLsbD 7 != a.getLsbD 7
        n := true, c := decide (a.toNat < v.toNat) } := by
  have h := (sub8_eq a v false).2
  rw [sub8_fst] at h
  cases src
  · exact h
  · show flagBits (((sub8 a v false).2 &&& ~~~0x28#8) ||| (v &&& 0x28#8)) = _
    rw [flagBits_mixXY, h]
    rfl

/-- The bits of `SZP(v)` with the given H, N and C (42_alu8.md rule R260). -/
@[simp] theorem flagBits_szp (v : Byte) (h n c : Bool) :
    flagBits (szp v h n c) =
      ⟨v.getLsbD 7, v == 0, v.getLsbD 5, h, v.getLsbD 3, evenParity v, n, c⟩ := by
  rw [szp, flagBits_packF, parity_eq]

/-- The bits of `INC8` (42_alu8.md rule R264). -/
theorem inc8_eq (v f : Byte) :
    flagBits (inc8 v f).2 =
      { s := (v + 1).getLsbD 7, z := v + 1 == 0, y := (v + 1).getLsbD 5
        h := decide (v.toNat % 16 = 15), x := (v + 1).getLsbD 3, pv := v == 0x7F, n := false
        c := (flagBits f).c } := by
  have hh : ((v &&& 0x0F#8) == 0x0F#8) = decide (v.toNat % 16 = 15) := by
    revert v; apply forall_byte; decide +kernel
  simp only [inc8, flagBits_packF, hh]
  rfl

/-- The bits of `DEC8` (42_alu8.md rule R265). -/
theorem dec8_eq (v f : Byte) :
    flagBits (dec8 v f).2 =
      { s := (v - 1).getLsbD 7, z := v - 1 == 0, y := (v - 1).getLsbD 5
        h := decide (v.toNat % 16 = 0), x := (v - 1).getLsbD 3, pv := v == 0x80, n := true
        c := (flagBits f).c } := by
  have hh : ((v &&& 0x0F#8) == 0x00#8) = decide (v.toNat % 16 = 0) := by
    revert v; apply forall_byte; decide +kernel
  simp only [dec8, flagBits_packF, hh]
  rfl

/-- The result of a rotate or shift as a number (44_rotate_shift_bit.md rule R324). -/
theorem rotResult_eq (op : RotOp) (v : Byte) (c : Bool) : (rotResult op v c).toNat = rotated op v.toNat c := by
  revert v
  cases op <;> cases c <;> (apply forall_byte; decide +kernel)

/-- The bits of `ROT` (44_rotate_shift_bit.md rule R324). -/
theorem rot8_eq (op : RotOp) (v f : Byte) :
    (rot8 op v f).1.toNat = rotated op v.toNat (flagBits f).c ∧
      flagBits (rot8 op v f).2 = rotFlags (rot8 op v f).1 (shiftedOut op v) := by
  refine ⟨rotResult_eq op v (flagC f), ?_⟩
  simp only [rot8, flagBits_szp]
  cases op <;> rfl

/-- The bits of the BIT flag byte (44_rotate_shift_bit.md rules R334, R335, R342). -/
theorem bitFlags_eq (b : Fin 8) (v f xy : Byte) :
    flagBits (bitFlags b v f xy) =
      { s := decide (b = 7) && v.getLsbD b, z := !v.getLsbD b, y := xy.getLsbD 5, h := true
        x := xy.getLsbD 3, pv := !v.getLsbD b, n := false, c := (flagBits f).c } := by
  have h7 : (b.val == 7) = decide (b = 7) := by revert b; decide
  simp only [bitFlags, flagBits_packF, h7]
  rfl

/-- RES and SET change exactly bit `b` (44_rotate_shift_bit.md rules R336, R338). -/
theorem resBit_setBit_eq (b j : Fin 8) (v f : Byte) :
    ((resBit b v f).1.getLsbD j = if j = b then false else v.getLsbD j) ∧
      ((setBit b v f).1.getLsbD j = if j = b then true else v.getLsbD j) := by
  have hm : (bitMask b).getLsbD j = decide (j = b) := by revert b j; decide
  have hj : decide (j.val < 8) = true := decide_eq_true j.isLt
  simp only [resBit, setBit, BitVec.getLsbD_and, BitVec.getLsbD_or, BitVec.getLsbD_not, hm, hj]
  by_cases h : j = b <;> simp [h]

/-- `ADD16` in integers (43_alu16.md rule R300). -/
theorem add16_eq (a b : Word) (f : Byte) :
    (add16 a b f).1.toNat = (a.toNat + b.toNat) % 65536 ∧
      flagBits (add16 a b f).2 =
        { flagBits f with
          y := (add16 a b f).1.getLsbD 13, h := decide (4095 < a.toNat % 4096 + b.toNat % 4096)
          x := (add16 a b f).1.getLsbD 11, n := false, c := decide (65535 < a.toNat + b.toNat) } := by
  have ha := a.isLt
  have hb := b.isLt
  have hres : (a.setWidth 17 + b.setWidth 17).toNat = a.toNat + b.toNat := by
    simp only [BitVec.toNat_add, BitVec.toNat_setWidth]
    omega
  have hr : (add16 a b f).1.toNat = (a.toNat + b.toNat) % 65536 := by
    show ((a.setWidth 17 + b.setWidth 17).setWidth 16).toNat = _
    rw [BitVec.toNat_setWidth, hres]
  refine ⟨hr, ?_⟩
  generalize hw : (add16 a b f).1 = r at hr
  have hf : (add16 a b f).2 = packF (flagS f) (flagZ f) (r.getLsbD 13) ((a ^^^ b ^^^ r).getLsbD 12)
      (r.getLsbD 11) (flagPV f) false ((a.setWidth 17 + b.setWidth 17).getLsbD 16) := by
    rw [← hw]; rfl
  have h2 : (a.setWidth 17 + b.setWidth 17).getLsbD 16 = decide (65535 < a.toNat + b.toNat) := by
    rw [getLsbD_eq, hres, decide_eq_decide]; omega
  have h1 : (a ^^^ b ^^^ r).getLsbD 12 = decide (4095 < a.toNat % 4096 + b.toNat % 4096) := by
    rw [xor3_bit, hr, decide_eq_decide]; omega
  rw [hf, flagBits_packF, h1, h2]
  rfl

/-- The 17-bit carry-in as a number. -/
theorem toNat_carryIn17 (c : Bool) : (carryIn17 c).toNat = c.toNat := by cases c <;> rfl

/-- `ADC16` in integers (43_alu16.md rule R301). -/
theorem adc16_eq (a b : Word) (c : Bool) :
    (adc16 a b c).1.toNat = (a.toNat + b.toNat + c.toNat) % 65536 ∧
      flagBits (adc16 a b c).2 =
        { s := (adc16 a b c).1.getLsbD 15, z := (adc16 a b c).1 == 0, y := (adc16 a b c).1.getLsbD 13
          h := decide (4095 < a.toNat % 4096 + b.toNat % 4096 + c.toNat), x := (adc16 a b c).1.getLsbD 11
          pv := a.getLsbD 15 == b.getLsbD 15 && (adc16 a b c).1.getLsbD 15 != a.getLsbD 15
          n := false, c := decide (65535 < a.toNat + b.toNat + c.toNat) } := by
  have hc1 : c.toNat ≤ 1 := Bool.toNat_le c
  have ha := a.isLt
  have hb := b.isLt
  have hres : (a.setWidth 17 + b.setWidth 17 + carryIn17 c).toNat = a.toNat + b.toNat + c.toNat := by
    simp only [BitVec.toNat_add, BitVec.toNat_setWidth, toNat_carryIn17]
    omega
  have hr : (adc16 a b c).1.toNat = (a.toNat + b.toNat + c.toNat) % 65536 := by
    show ((a.setWidth 17 + b.setWidth 17 + carryIn17 c).setWidth 16).toNat = _
    rw [BitVec.toNat_setWidth, hres]
  refine ⟨hr, ?_⟩
  generalize hw : (adc16 a b c).1 = r at hr
  have hf : (adc16 a b c).2 = packF (r.getLsbD 15) (r == 0) (r.getLsbD 13) ((a ^^^ b ^^^ r).getLsbD 12)
      (r.getLsbD 11) (((a ^^^ b ^^^ 0x8000#16) &&& (b ^^^ r)).getLsbD 15) false
      ((a.setWidth 17 + b.setWidth 17 + carryIn17 c).getLsbD 16) := by
    rw [← hw]; rfl
  rw [hf, flagBits_packF]
  congr 1
  · rw [xor3_bit, hr, decide_eq_decide]
    omega
  · simp only [BitVec.getLsbD_xor, BitVec.getLsbD_and]
    cases a.getLsbD 15 <;> cases b.getLsbD 15 <;> cases r.getLsbD 15 <;> rfl
  · rw [getLsbD_eq, hres, decide_eq_decide]
    omega

/-- `SBC16` in integers (43_alu16.md rule R302). -/
theorem sbc16_eq (a b : Word) (c : Bool) :
    (sbc16 a b c).1.toNat = (a.toNat + 131072 - b.toNat - c.toNat) % 65536 ∧
      flagBits (sbc16 a b c).2 =
        { s := (sbc16 a b c).1.getLsbD 15, z := (sbc16 a b c).1 == 0, y := (sbc16 a b c).1.getLsbD 13
          h := decide (a.toNat % 4096 < b.toNat % 4096 + c.toNat), x := (sbc16 a b c).1.getLsbD 11
          pv := a.getLsbD 15 != b.getLsbD 15 && (sbc16 a b c).1.getLsbD 15 != a.getLsbD 15
          n := true, c := decide (a.toNat < b.toNat + c.toNat) } := by
  have hc1 : c.toNat ≤ 1 := Bool.toNat_le c
  have ha := a.isLt
  have hb := b.isLt
  have hres : (a.setWidth 17 - b.setWidth 17 - carryIn17 c).toNat =
      (a.toNat + 262144 - b.toNat - c.toNat) % 131072 := by
    simp only [BitVec.toNat_sub, BitVec.toNat_setWidth, toNat_carryIn17]
    omega
  have hr : (sbc16 a b c).1.toNat = (a.toNat + 131072 - b.toNat - c.toNat) % 65536 := by
    show ((a.setWidth 17 - b.setWidth 17 - carryIn17 c).setWidth 16).toNat = _
    rw [BitVec.toNat_setWidth, hres]
    omega
  refine ⟨hr, ?_⟩
  generalize hw : (sbc16 a b c).1 = r at hr
  have hf : (sbc16 a b c).2 = packF (r.getLsbD 15) (r == 0) (r.getLsbD 13) ((a ^^^ b ^^^ r).getLsbD 12)
      (r.getLsbD 11) (((a ^^^ b) &&& (a ^^^ r)).getLsbD 15) true
      ((a.setWidth 17 - b.setWidth 17 - carryIn17 c).getLsbD 16) := by
    rw [← hw]; rfl
  rw [hf, flagBits_packF]
  congr 1
  · rw [xor3_bit, hr, decide_eq_decide]
    omega
  · simp only [BitVec.getLsbD_xor, BitVec.getLsbD_and]
    cases a.getLsbD 15 <;> cases b.getLsbD 15 <;> cases r.getLsbD 15 <;> rfl
  · rw [getLsbD_eq, hres, decide_eq_decide]
    omega

/-- DAA in integers (42_alu8.md rule R278). -/
theorem daa8_eq (a f : Byte) :
    let b := flagBits f
    let low := b.h || decide (9 < a.toNat % 16)
    let high := b.c || decide (0x99 < a.toNat)
    let diff := (if low then 0x06 else 0) + (if high then 0x60 else 0)
    (daa8 a f).1.toNat = (if b.n then a.toNat + 256 - diff else a.toNat + diff) % 256 ∧
      flagBits (daa8 a f).2 =
        { s := (daa8 a f).1.getLsbD 7, z := (daa8 a f).1 == 0, y := (daa8 a f).1.getLsbD 5
          h := a.getLsbD 4 != (daa8 a f).1.getLsbD 4, x := (daa8 a f).1.getLsbD 3
          pv := evenParity (daa8 a f).1, n := b.n, c := high } := by
  have hl : (a &&& 0x0F#8).toNat = a.toNat % 16 := by
    revert a; apply forall_byte; decide +kernel
  have ha := a.isLt
  refine ⟨?_, ?_⟩
  · have e1 : daaLow a f = ((flagBits f).h || decide (9 < a.toNat % 16)) := by
      unfold daaLow; rw [hl]; rfl
    have e2 : daaHigh a f = ((flagBits f).c || decide (0x99 < a.toNat)) := rfl
    have e3 : flagN f = (flagBits f).n := rfl
    simp only [daa8, e1, e2, e3]
    generalize ((flagBits f).h || decide (9 < a.toNat % 16)) = lo
    generalize ((flagBits f).c || decide (0x99 < a.toNat)) = hi
    generalize (flagBits f).n = n
    cases lo <;> cases hi <;> cases n <;> simp [BitVec.toNat_sub, BitVec.toNat_add] <;> omega
  · simp only [daa8, flagBits_szp, BitVec.getLsbD_xor]
    rfl

/-- The low nibble as a number. -/
theorem toNat_lowNibble (v : Byte) : (v &&& 0x0F#8).toNat = v.toNat % 16 := by
  revert v; apply forall_byte; decide +kernel

/-- A difference is zero exactly when the operands are equal. -/
theorem sub_beq_zero (a v : Byte) : (a - v == 0) = (a == v) := by
  by_cases h : a = v
  · simp [h]
  · have h' : a - v ≠ 0 := by bv_omega
    rw [beq_eq_false_iff_ne.mpr h', beq_eq_false_iff_ne.mpr h]

/-- The bits of one transfer iteration's flags (45_block.md rule R360). -/
theorem ldxFlags_eq (v a f : Byte) (bc : Word) :
    flagBits (ldxFlags v a f bc) =
      { flagBits f with
        y := (v + a).getLsbD 1, h := false, x := (v + a).getLsbD 3, pv := bc != 0, n := false } := by
  simp only [ldxFlags, flagBits_packF]
  rfl

/-- The bits of one compare iteration's flags (45_block.md rule R361). -/
theorem cpxFlags_eq (a v f : Byte) (bc : Word) :
    flagBits (cpxFlags a v f bc) =
      let half := decide (a.toNat % 16 < v.toNat % 16)
      let n := a - v - (if half then 1 else 0)
      { s := (a - v).getLsbD 7, z := a == v, y := n.getLsbD 1, h := half
        x := n.getLsbD 3, pv := bc != 0, n := true, c := (flagBits f).c } := by
  simp only [cpxFlags, flagBits_packF, toNat_lowNibble, sub_beq_zero]
  rfl

/-- The bits of one port iteration's flags (45_block.md rules R362, R363). -/
theorem ioxFlags_eq (b v w : Byte) :
    flagBits (ioxFlags b v w) =
      let k := v.toNat + w.toNat
      { s := b.getLsbD 7, z := b == 0, y := b.getLsbD 5, h := decide (255 < k), x := b.getLsbD 3
        pv := evenParity (BitVec.ofNat 8 (k % 8) ^^^ b), n := v.getLsbD 7, c := decide (255 < k) } := by
  have hv := v.isLt
  have hw := w.isLt
  have hk : (v.setWidth 9 + w.setWidth 9).toNat = v.toNat + w.toNat := by
    simp only [BitVec.toNat_add, BitVec.toNat_setWidth]
    omega
  have h8 : (v.setWidth 9 + w.setWidth 9).getLsbD 8 = decide (255 < v.toNat + w.toNat) := by
    rw [getLsbD_eq, hk, decide_eq_decide]
    omega
  have hm : ∀ x : Byte, x &&& 0x07#8 = BitVec.ofNat 8 (x.toNat % 8) := by
    apply forall_byte; decide +kernel
  have h7 : (v.setWidth 9 + w.setWidth 9).setWidth 8 &&& 0x07#8 = BitVec.ofNat 8 ((v.toNat + w.toNat) % 8) := by
    rw [hm, BitVec.toNat_setWidth, hk]
    congr 1
    omega
  simp only [ioxFlags, flagBits_packF, parity_eq, h8, h7]

/-- The refresh count step as a number (10_state.md rule R37). -/
theorem toNat_refreshStep (r : Byte) :
    (refreshStep r).toNat = 128 * (r.toNat / 128) + (r.toNat % 128 + 1) % 128 := by
  revert r; apply forall_byte; decide +kernel

end Sys2Proof.Safety
end

