-- ==== Sys2Proof/Laws/State.lean ====
section
/-! SUPPORT. One lemma per field per update of the state, so that no proof unfolds a record update. -/

namespace Sys2Proof.Machine

/-! ### `tick` -/

@[simp] theorem State.tick_main (s : State) (n : Nat) : (s.tick n).main = s.main := rfl
@[simp] theorem State.tick_shadow (s : State) (n : Nat) : (s.tick n).shadow = s.shadow := rfl
@[simp] theorem State.tick_ix (s : State) (n : Nat) : (s.tick n).ix = s.ix := rfl
@[simp] theorem State.tick_iy (s : State) (n : Nat) : (s.tick n).iy = s.iy := rfl
@[simp] theorem State.tick_sp (s : State) (n : Nat) : (s.tick n).sp = s.sp := rfl
@[simp] theorem State.tick_pc (s : State) (n : Nat) : (s.tick n).pc = s.pc := rfl
@[simp] theorem State.tick_wz (s : State) (n : Nat) : (s.tick n).wz = s.wz := rfl
@[simp] theorem State.tick_i (s : State) (n : Nat) : (s.tick n).i = s.i := rfl
@[simp] theorem State.tick_r (s : State) (n : Nat) : (s.tick n).r = s.r := rfl
@[simp] theorem State.tick_iff1 (s : State) (n : Nat) : (s.tick n).iff1 = s.iff1 := rfl
@[simp] theorem State.tick_iff2 (s : State) (n : Nat) : (s.tick n).iff2 = s.iff2 := rfl
@[simp] theorem State.tick_im (s : State) (n : Nat) : (s.tick n).im = s.im := rfl
@[simp] theorem State.tick_halted (s : State) (n : Nat) : (s.tick n).halted = s.halted := rfl
@[simp] theorem State.tick_eiPending (s : State) (n : Nat) : (s.tick n).eiPending = s.eiPending := rfl
@[simp] theorem State.tick_indexMode (s : State) (n : Nat) : (s.tick n).indexMode = s.indexMode := rfl
@[simp] theorem State.tick_nmiPending (s : State) (n : Nat) : (s.tick n).nmiPending = s.nmiPending := rfl
@[simp] theorem State.tick_ticks (s : State) (n : Nat) : (s.tick n).ticks = s.ticks + n := rfl
@[simp] theorem State.tick_mem (s : State) (n : Nat) : (s.tick n).mem = s.mem := rfl
@[simp] theorem State.tick_history (s : State) (n : Nat) : (s.tick n).history = s.history := rfl
@[simp] theorem State.tick_intLine (s : State) (n : Nat) : (s.tick n).intLine = s.intLine := rfl
@[simp] theorem State.tick_intData (s : State) (n : Nat) : (s.tick n).intData = s.intData := rfl
@[simp] theorem State.tick_params (s : State) (n : Nat) : (s.tick n).params = s.params := rfl

/-! ### `record` -/

@[simp] theorem State.record_main (s : State) (e : Event) : (s.record e).main = s.main := rfl
@[simp] theorem State.record_shadow (s : State) (e : Event) : (s.record e).shadow = s.shadow := rfl
@[simp] theorem State.record_ix (s : State) (e : Event) : (s.record e).ix = s.ix := rfl
@[simp] theorem State.record_iy (s : State) (e : Event) : (s.record e).iy = s.iy := rfl
@[simp] theorem State.record_sp (s : State) (e : Event) : (s.record e).sp = s.sp := rfl
@[simp] theorem State.record_pc (s : State) (e : Event) : (s.record e).pc = s.pc := rfl
@[simp] theorem State.record_wz (s : State) (e : Event) : (s.record e).wz = s.wz := rfl
@[simp] theorem State.record_i (s : State) (e : Event) : (s.record e).i = s.i := rfl
@[simp] theorem State.record_r (s : State) (e : Event) : (s.record e).r = s.r := rfl
@[simp] theorem State.record_iff1 (s : State) (e : Event) : (s.record e).iff1 = s.iff1 := rfl
@[simp] theorem State.record_iff2 (s : State) (e : Event) : (s.record e).iff2 = s.iff2 := rfl
@[simp] theorem State.record_im (s : State) (e : Event) : (s.record e).im = s.im := rfl
@[simp] theorem State.record_halted (s : State) (e : Event) : (s.record e).halted = s.halted := rfl
@[simp] theorem State.record_eiPending (s : State) (e : Event) : (s.record e).eiPending = s.eiPending := rfl
@[simp] theorem State.record_indexMode (s : State) (e : Event) : (s.record e).indexMode = s.indexMode := rfl
@[simp] theorem State.record_nmiPending (s : State) (e : Event) : (s.record e).nmiPending = s.nmiPending := rfl
@[simp] theorem State.record_ticks (s : State) (e : Event) : (s.record e).ticks = s.ticks := rfl
@[simp] theorem State.record_mem (s : State) (e : Event) : (s.record e).mem = s.mem := rfl
@[simp] theorem State.record_history (s : State) (e : Event) : (s.record e).history = e :: s.history := rfl
@[simp] theorem State.record_intLine (s : State) (e : Event) : (s.record e).intLine = s.intLine := rfl
@[simp] theorem State.record_intData (s : State) (e : Event) : (s.record e).intData = s.intData := rfl
@[simp] theorem State.record_params (s : State) (e : Event) : (s.record e).params = s.params := rfl

/-! ### `setWz` -/

@[simp] theorem State.setWz_main (s : State) (v : Word) : (s.setWz v).main = s.main := rfl
@[simp] theorem State.setWz_shadow (s : State) (v : Word) : (s.setWz v).shadow = s.shadow := rfl
@[simp] theorem State.setWz_ix (s : State) (v : Word) : (s.setWz v).ix = s.ix := rfl
@[simp] theorem State.setWz_iy (s : State) (v : Word) : (s.setWz v).iy = s.iy := rfl
@[simp] theorem State.setWz_sp (s : State) (v : Word) : (s.setWz v).sp = s.sp := rfl
@[simp] theorem State.setWz_pc (s : State) (v : Word) : (s.setWz v).pc = s.pc := rfl
@[simp] theorem State.setWz_wz (s : State) (v : Word) : (s.setWz v).wz = v := rfl
@[simp] theorem State.setWz_i (s : State) (v : Word) : (s.setWz v).i = s.i := rfl
@[simp] theorem State.setWz_r (s : State) (v : Word) : (s.setWz v).r = s.r := rfl
@[simp] theorem State.setWz_iff1 (s : State) (v : Word) : (s.setWz v).iff1 = s.iff1 := rfl
@[simp] theorem State.setWz_iff2 (s : State) (v : Word) : (s.setWz v).iff2 = s.iff2 := rfl
@[simp] theorem State.setWz_im (s : State) (v : Word) : (s.setWz v).im = s.im := rfl
@[simp] theorem State.setWz_halted (s : State) (v : Word) : (s.setWz v).halted = s.halted := rfl
@[simp] theorem State.setWz_eiPending (s : State) (v : Word) : (s.setWz v).eiPending = s.eiPending := rfl
@[simp] theorem State.setWz_indexMode (s : State) (v : Word) : (s.setWz v).indexMode = s.indexMode := rfl
@[simp] theorem State.setWz_nmiPending (s : State) (v : Word) : (s.setWz v).nmiPending = s.nmiPending := rfl
@[simp] theorem State.setWz_ticks (s : State) (v : Word) : (s.setWz v).ticks = s.ticks := rfl
@[simp] theorem State.setWz_mem (s : State) (v : Word) : (s.setWz v).mem = s.mem := rfl
@[simp] theorem State.setWz_history (s : State) (v : Word) : (s.setWz v).history = s.history := rfl
@[simp] theorem State.setWz_intLine (s : State) (v : Word) : (s.setWz v).intLine = s.intLine := rfl
@[simp] theorem State.setWz_intData (s : State) (v : Word) : (s.setWz v).intData = s.intData := rfl
@[simp] theorem State.setWz_params (s : State) (v : Word) : (s.setWz v).params = s.params := rfl

/-! ### `setF` -/

@[simp] theorem State.setF_main (s : State) (v : Byte) : (s.setF v).main = { s.main with f := v } := rfl
@[simp] theorem State.setF_shadow (s : State) (v : Byte) : (s.setF v).shadow = s.shadow := rfl
@[simp] theorem State.setF_ix (s : State) (v : Byte) : (s.setF v).ix = s.ix := rfl
@[simp] theorem State.setF_iy (s : State) (v : Byte) : (s.setF v).iy = s.iy := rfl
@[simp] theorem State.setF_sp (s : State) (v : Byte) : (s.setF v).sp = s.sp := rfl
@[simp] theorem State.setF_pc (s : State) (v : Byte) : (s.setF v).pc = s.pc := rfl
@[simp] theorem State.setF_wz (s : State) (v : Byte) : (s.setF v).wz = s.wz := rfl
@[simp] theorem State.setF_i (s : State) (v : Byte) : (s.setF v).i = s.i := rfl
@[simp] theorem State.setF_r (s : State) (v : Byte) : (s.setF v).r = s.r := rfl
@[simp] theorem State.setF_iff1 (s : State) (v : Byte) : (s.setF v).iff1 = s.iff1 := rfl
@[simp] theorem State.setF_iff2 (s : State) (v : Byte) : (s.setF v).iff2 = s.iff2 := rfl
@[simp] theorem State.setF_im (s : State) (v : Byte) : (s.setF v).im = s.im := rfl
@[simp] theorem State.setF_halted (s : State) (v : Byte) : (s.setF v).halted = s.halted := rfl
@[simp] theorem State.setF_eiPending (s : State) (v : Byte) : (s.setF v).eiPending = s.eiPending := rfl
@[simp] theorem State.setF_indexMode (s : State) (v : Byte) : (s.setF v).indexMode = s.indexMode := rfl
@[simp] theorem State.setF_nmiPending (s : State) (v : Byte) : (s.setF v).nmiPending = s.nmiPending := rfl
@[simp] theorem State.setF_ticks (s : State) (v : Byte) : (s.setF v).ticks = s.ticks := rfl
@[simp] theorem State.setF_mem (s : State) (v : Byte) : (s.setF v).mem = s.mem := rfl
@[simp] theorem State.setF_history (s : State) (v : Byte) : (s.setF v).history = s.history := rfl
@[simp] theorem State.setF_intLine (s : State) (v : Byte) : (s.setF v).intLine = s.intLine := rfl
@[simp] theorem State.setF_intData (s : State) (v : Byte) : (s.setF v).intData = s.intData := rfl
@[simp] theorem State.setF_params (s : State) (v : Byte) : (s.setF v).params = s.params := rfl

/-! ### `setAF` -/

@[simp] theorem State.setAF_main (s : State) (r : Byte × Byte) : (s.setAF r).main = { s.main with a := r.1, f := r.2 } := rfl
@[simp] theorem State.setAF_shadow (s : State) (r : Byte × Byte) : (s.setAF r).shadow = s.shadow := rfl
@[simp] theorem State.setAF_ix (s : State) (r : Byte × Byte) : (s.setAF r).ix = s.ix := rfl
@[simp] theorem State.setAF_iy (s : State) (r : Byte × Byte) : (s.setAF r).iy = s.iy := rfl
@[simp] theorem State.setAF_sp (s : State) (r : Byte × Byte) : (s.setAF r).sp = s.sp := rfl
@[simp] theorem State.setAF_pc (s : State) (r : Byte × Byte) : (s.setAF r).pc = s.pc := rfl
@[simp] theorem State.setAF_wz (s : State) (r : Byte × Byte) : (s.setAF r).wz = s.wz := rfl
@[simp] theorem State.setAF_i (s : State) (r : Byte × Byte) : (s.setAF r).i = s.i := rfl
@[simp] theorem State.setAF_r (s : State) (r : Byte × Byte) : (s.setAF r).r = s.r := rfl
@[simp] theorem State.setAF_iff1 (s : State) (r : Byte × Byte) : (s.setAF r).iff1 = s.iff1 := rfl
@[simp] theorem State.setAF_iff2 (s : State) (r : Byte × Byte) : (s.setAF r).iff2 = s.iff2 := rfl
@[simp] theorem State.setAF_im (s : State) (r : Byte × Byte) : (s.setAF r).im = s.im := rfl
@[simp] theorem State.setAF_halted (s : State) (r : Byte × Byte) : (s.setAF r).halted = s.halted := rfl
@[simp] theorem State.setAF_eiPending (s : State) (r : Byte × Byte) : (s.setAF r).eiPending = s.eiPending := rfl
@[simp] theorem State.setAF_indexMode (s : State) (r : Byte × Byte) : (s.setAF r).indexMode = s.indexMode := rfl
@[simp] theorem State.setAF_nmiPending (s : State) (r : Byte × Byte) : (s.setAF r).nmiPending = s.nmiPending := rfl
@[simp] theorem State.setAF_ticks (s : State) (r : Byte × Byte) : (s.setAF r).ticks = s.ticks := rfl
@[simp] theorem State.setAF_mem (s : State) (r : Byte × Byte) : (s.setAF r).mem = s.mem := rfl
@[simp] theorem State.setAF_history (s : State) (r : Byte × Byte) : (s.setAF r).history = s.history := rfl
@[simp] theorem State.setAF_intLine (s : State) (r : Byte × Byte) : (s.setAF r).intLine = s.intLine := rfl
@[simp] theorem State.setAF_intData (s : State) (r : Byte × Byte) : (s.setAF r).intData = s.intData := rfl
@[simp] theorem State.setAF_params (s : State) (r : Byte × Byte) : (s.setAF r).params = s.params := rfl

/-! ### `jumpTo` -/

@[simp] theorem State.jumpTo_main (s : State) (v : Word) : (s.jumpTo v).main = s.main := rfl
@[simp] theorem State.jumpTo_shadow (s : State) (v : Word) : (s.jumpTo v).shadow = s.shadow := rfl
@[simp] theorem State.jumpTo_ix (s : State) (v : Word) : (s.jumpTo v).ix = s.ix := rfl
@[simp] theorem State.jumpTo_iy (s : State) (v : Word) : (s.jumpTo v).iy = s.iy := rfl
@[simp] theorem State.jumpTo_sp (s : State) (v : Word) : (s.jumpTo v).sp = s.sp := rfl
@[simp] theorem State.jumpTo_pc (s : State) (v : Word) : (s.jumpTo v).pc = v := rfl
@[simp] theorem State.jumpTo_wz (s : State) (v : Word) : (s.jumpTo v).wz = v := rfl
@[simp] theorem State.jumpTo_i (s : State) (v : Word) : (s.jumpTo v).i = s.i := rfl
@[simp] theorem State.jumpTo_r (s : State) (v : Word) : (s.jumpTo v).r = s.r := rfl
@[simp] theorem State.jumpTo_iff1 (s : State) (v : Word) : (s.jumpTo v).iff1 = s.iff1 := rfl
@[simp] theorem State.jumpTo_iff2 (s : State) (v : Word) : (s.jumpTo v).iff2 = s.iff2 := rfl
@[simp] theorem State.jumpTo_im (s : State) (v : Word) : (s.jumpTo v).im = s.im := rfl
@[simp] theorem State.jumpTo_halted (s : State) (v : Word) : (s.jumpTo v).halted = s.halted := rfl
@[simp] theorem State.jumpTo_eiPending (s : State) (v : Word) : (s.jumpTo v).eiPending = s.eiPending := rfl
@[simp] theorem State.jumpTo_indexMode (s : State) (v : Word) : (s.jumpTo v).indexMode = s.indexMode := rfl
@[simp] theorem State.jumpTo_nmiPending (s : State) (v : Word) : (s.jumpTo v).nmiPending = s.nmiPending := rfl
@[simp] theorem State.jumpTo_ticks (s : State) (v : Word) : (s.jumpTo v).ticks = s.ticks := rfl
@[simp] theorem State.jumpTo_mem (s : State) (v : Word) : (s.jumpTo v).mem = s.mem := rfl
@[simp] theorem State.jumpTo_history (s : State) (v : Word) : (s.jumpTo v).history = s.history := rfl
@[simp] theorem State.jumpTo_intLine (s : State) (v : Word) : (s.jumpTo v).intLine = s.intLine := rfl
@[simp] theorem State.jumpTo_intData (s : State) (v : Word) : (s.jumpTo v).intData = s.intData := rfl
@[simp] theorem State.jumpTo_params (s : State) (v : Word) : (s.jumpTo v).params = s.params := rfl

/-! ### `writeMem` -/

@[simp] theorem State.writeMem_main (s : State) (a : Word) (v : Byte) : (s.writeMem a v).main = s.main := rfl
@[simp] theorem State.writeMem_shadow (s : State) (a : Word) (v : Byte) : (s.writeMem a v).shadow = s.shadow := rfl
@[simp] theorem State.writeMem_ix (s : State) (a : Word) (v : Byte) : (s.writeMem a v).ix = s.ix := rfl
@[simp] theorem State.writeMem_iy (s : State) (a : Word) (v : Byte) : (s.writeMem a v).iy = s.iy := rfl
@[simp] theorem State.writeMem_sp (s : State) (a : Word) (v : Byte) : (s.writeMem a v).sp = s.sp := rfl
@[simp] theorem State.writeMem_pc (s : State) (a : Word) (v : Byte) : (s.writeMem a v).pc = s.pc := rfl
@[simp] theorem State.writeMem_wz (s : State) (a : Word) (v : Byte) : (s.writeMem a v).wz = s.wz := rfl
@[simp] theorem State.writeMem_i (s : State) (a : Word) (v : Byte) : (s.writeMem a v).i = s.i := rfl
@[simp] theorem State.writeMem_r (s : State) (a : Word) (v : Byte) : (s.writeMem a v).r = s.r := rfl
@[simp] theorem State.writeMem_iff1 (s : State) (a : Word) (v : Byte) : (s.writeMem a v).iff1 = s.iff1 := rfl
@[simp] theorem State.writeMem_iff2 (s : State) (a : Word) (v : Byte) : (s.writeMem a v).iff2 = s.iff2 := rfl
@[simp] theorem State.writeMem_im (s : State) (a : Word) (v : Byte) : (s.writeMem a v).im = s.im := rfl
@[simp] theorem State.writeMem_halted (s : State) (a : Word) (v : Byte) : (s.writeMem a v).halted = s.halted := rfl
@[simp] theorem State.writeMem_eiPending (s : State) (a : Word) (v : Byte) : (s.writeMem a v).eiPending = s.eiPending := rfl
@[simp] theorem State.writeMem_indexMode (s : State) (a : Word) (v : Byte) : (s.writeMem a v).indexMode = s.indexMode := rfl
@[simp] theorem State.writeMem_nmiPending (s : State) (a : Word) (v : Byte) : (s.writeMem a v).nmiPending = s.nmiPending := rfl
@[simp] theorem State.writeMem_ticks (s : State) (a : Word) (v : Byte) : (s.writeMem a v).ticks = s.ticks := rfl
@[simp] theorem State.writeMem_mem (s : State) (a : Word) (v : Byte) : (s.writeMem a v).mem = Memory.write s.mem a.toNat v := rfl
@[simp] theorem State.writeMem_history (s : State) (a : Word) (v : Byte) : (s.writeMem a v).history = .write a v :: s.history := rfl
@[simp] theorem State.writeMem_intLine (s : State) (a : Word) (v : Byte) : (s.writeMem a v).intLine = s.intLine := rfl
@[simp] theorem State.writeMem_intData (s : State) (a : Word) (v : Byte) : (s.writeMem a v).intData = s.intData := rfl
@[simp] theorem State.writeMem_params (s : State) (a : Word) (v : Byte) : (s.writeMem a v).params = s.params := rfl

/-! ### `set8` -/

@[simp] theorem State.set8_shadow (s : State) (k : Reg8) (v : Byte) : (s.set8 k v).shadow = s.shadow := by cases k <;> rfl
@[simp] theorem State.set8_ix (s : State) (k : Reg8) (v : Byte) : (s.set8 k v).ix = s.ix := by cases k <;> rfl
@[simp] theorem State.set8_iy (s : State) (k : Reg8) (v : Byte) : (s.set8 k v).iy = s.iy := by cases k <;> rfl
@[simp] theorem State.set8_sp (s : State) (k : Reg8) (v : Byte) : (s.set8 k v).sp = s.sp := by cases k <;> rfl
@[simp] theorem State.set8_pc (s : State) (k : Reg8) (v : Byte) : (s.set8 k v).pc = s.pc := by cases k <;> rfl
@[simp] theorem State.set8_wz (s : State) (k : Reg8) (v : Byte) : (s.set8 k v).wz = s.wz := by cases k <;> rfl
@[simp] theorem State.set8_i (s : State) (k : Reg8) (v : Byte) : (s.set8 k v).i = s.i := by cases k <;> rfl
@[simp] theorem State.set8_r (s : State) (k : Reg8) (v : Byte) : (s.set8 k v).r = s.r := by cases k <;> rfl
@[simp] theorem State.set8_iff1 (s : State) (k : Reg8) (v : Byte) : (s.set8 k v).iff1 = s.iff1 := by cases k <;> rfl
@[simp] theorem State.set8_iff2 (s : State) (k : Reg8) (v : Byte) : (s.set8 k v).iff2 = s.iff2 := by cases k <;> rfl
@[simp] theorem State.set8_im (s : State) (k : Reg8) (v : Byte) : (s.set8 k v).im = s.im := by cases k <;> rfl
@[simp] theorem State.set8_halted (s : State) (k : Reg8) (v : Byte) : (s.set8 k v).halted = s.halted := by cases k <;> rfl
@[simp] theorem State.set8_eiPending (s : State) (k : Reg8) (v : Byte) : (s.set8 k v).eiPending = s.eiPending := by cases k <;> rfl
@[simp] theorem State.set8_indexMode (s : State) (k : Reg8) (v : Byte) : (s.set8 k v).indexMode = s.indexMode := by cases k <;> rfl
@[simp] theorem State.set8_nmiPending (s : State) (k : Reg8) (v : Byte) : (s.set8 k v).nmiPending = s.nmiPending := by cases k <;> rfl
@[simp] theorem State.set8_ticks (s : State) (k : Reg8) (v : Byte) : (s.set8 k v).ticks = s.ticks := by cases k <;> rfl
@[simp] theorem State.set8_mem (s : State) (k : Reg8) (v : Byte) : (s.set8 k v).mem = s.mem := by cases k <;> rfl
@[simp] theorem State.set8_history (s : State) (k : Reg8) (v : Byte) : (s.set8 k v).history = s.history := by cases k <;> rfl
@[simp] theorem State.set8_intLine (s : State) (k : Reg8) (v : Byte) : (s.set8 k v).intLine = s.intLine := by cases k <;> rfl
@[simp] theorem State.set8_intData (s : State) (k : Reg8) (v : Byte) : (s.set8 k v).intData = s.intData := by cases k <;> rfl
@[simp] theorem State.set8_params (s : State) (k : Reg8) (v : Byte) : (s.set8 k v).params = s.params := by cases k <;> rfl

/-! ### `setIdx` -/

@[simp] theorem State.setIdx_main (s : State) (m : IdxReg) (v : Word) : (s.setIdx m v).main = s.main := by cases m <;> rfl
@[simp] theorem State.setIdx_shadow (s : State) (m : IdxReg) (v : Word) : (s.setIdx m v).shadow = s.shadow := by cases m <;> rfl
@[simp] theorem State.setIdx_sp (s : State) (m : IdxReg) (v : Word) : (s.setIdx m v).sp = s.sp := by cases m <;> rfl
@[simp] theorem State.setIdx_pc (s : State) (m : IdxReg) (v : Word) : (s.setIdx m v).pc = s.pc := by cases m <;> rfl
@[simp] theorem State.setIdx_wz (s : State) (m : IdxReg) (v : Word) : (s.setIdx m v).wz = s.wz := by cases m <;> rfl
@[simp] theorem State.setIdx_i (s : State) (m : IdxReg) (v : Word) : (s.setIdx m v).i = s.i := by cases m <;> rfl
@[simp] theorem State.setIdx_r (s : State) (m : IdxReg) (v : Word) : (s.setIdx m v).r = s.r := by cases m <;> rfl
@[simp] theorem State.setIdx_iff1 (s : State) (m : IdxReg) (v : Word) : (s.setIdx m v).iff1 = s.iff1 := by cases m <;> rfl
@[simp] theorem State.setIdx_iff2 (s : State) (m : IdxReg) (v : Word) : (s.setIdx m v).iff2 = s.iff2 := by cases m <;> rfl
@[simp] theorem State.setIdx_im (s : State) (m : IdxReg) (v : Word) : (s.setIdx m v).im = s.im := by cases m <;> rfl
@[simp] theorem State.setIdx_halted (s : State) (m : IdxReg) (v : Word) : (s.setIdx m v).halted = s.halted := by cases m <;> rfl
@[simp] theorem State.setIdx_eiPending (s : State) (m : IdxReg) (v : Word) : (s.setIdx m v).eiPending = s.eiPending := by cases m <;> rfl
@[simp] theorem State.setIdx_indexMode (s : State) (m : IdxReg) (v : Word) : (s.setIdx m v).indexMode = s.indexMode := by cases m <;> rfl
@[simp] theorem State.setIdx_nmiPending (s : State) (m : IdxReg) (v : Word) : (s.setIdx m v).nmiPending = s.nmiPending := by cases m <;> rfl
@[simp] theorem State.setIdx_ticks (s : State) (m : IdxReg) (v : Word) : (s.setIdx m v).ticks = s.ticks := by cases m <;> rfl
@[simp] theorem State.setIdx_mem (s : State) (m : IdxReg) (v : Word) : (s.setIdx m v).mem = s.mem := by cases m <;> rfl
@[simp] theorem State.setIdx_history (s : State) (m : IdxReg) (v : Word) : (s.setIdx m v).history = s.history := by cases m <;> rfl
@[simp] theorem State.setIdx_intLine (s : State) (m : IdxReg) (v : Word) : (s.setIdx m v).intLine = s.intLine := by cases m <;> rfl
@[simp] theorem State.setIdx_intData (s : State) (m : IdxReg) (v : Word) : (s.setIdx m v).intData = s.intData := by cases m <;> rfl
@[simp] theorem State.setIdx_params (s : State) (m : IdxReg) (v : Word) : (s.setIdx m v).params = s.params := by cases m <;> rfl

/-! ### `setLoc` -/

@[simp] theorem State.setLoc_shadow (s : State) (k : Loc8) (v : Byte) : (s.setLoc k v).shadow = s.shadow := by
  rcases k with r | ⟨m, h⟩
  · cases r <;> rfl
  · cases m <;> cases h <;> rfl
@[simp] theorem State.setLoc_sp (s : State) (k : Loc8) (v : Byte) : (s.setLoc k v).sp = s.sp := by
  rcases k with r | ⟨m, h⟩
  · cases r <;> rfl
  · cases m <;> cases h <;> rfl
@[simp] theorem State.setLoc_pc (s : State) (k : Loc8) (v : Byte) : (s.setLoc k v).pc = s.pc := by
  rcases k with r | ⟨m, h⟩
  · cases r <;> rfl
  · cases m <;> cases h <;> rfl
@[simp] theorem State.setLoc_wz (s : State) (k : Loc8) (v : Byte) : (s.setLoc k v).wz = s.wz := by
  rcases k with r | ⟨m, h⟩
  · cases r <;> rfl
  · cases m <;> cases h <;> rfl
@[simp] theorem State.setLoc_i (s : State) (k : Loc8) (v : Byte) : (s.setLoc k v).i = s.i := by
  rcases k with r | ⟨m, h⟩
  · cases r <;> rfl
  · cases m <;> cases h <;> rfl
@[simp] theorem State.setLoc_r (s : State) (k : Loc8) (v : Byte) : (s.setLoc k v).r = s.r := by
  rcases k with r | ⟨m, h⟩
  · cases r <;> rfl
  · cases m <;> cases h <;> rfl
@[simp] theorem State.setLoc_iff1 (s : State) (k : Loc8) (v : Byte) : (s.setLoc k v).iff1 = s.iff1 := by
  rcases k with r | ⟨m, h⟩
  · cases r <;> rfl
  · cases m <;> cases h <;> rfl
@[simp] theorem State.setLoc_iff2 (s : State) (k : Loc8) (v : Byte) : (s.setLoc k v).iff2 = s.iff2 := by
  rcases k with r | ⟨m, h⟩
  · cases r <;> rfl
  · cases m <;> cases h <;> rfl
@[simp] theorem State.setLoc_im (s : State) (k : Loc8) (v : Byte) : (s.setLoc k v).im = s.im := by
  rcases k with r | ⟨m, h⟩
  · cases r <;> rfl
  · cases m <;> cases h <;> rfl
@[simp] theorem State.setLoc_halted (s : State) (k : Loc8) (v : Byte) : (s.setLoc k v).halted = s.halted := by
  rcases k with r | ⟨m, h⟩
  · cases r <;> rfl
  · cases m <;> cases h <;> rfl
@[simp] theorem State.setLoc_eiPending (s : State) (k : Loc8) (v : Byte) : (s.setLoc k v).eiPending = s.eiPending := by
  rcases k with r | ⟨m, h⟩
  · cases r <;> rfl
  · cases m <;> cases h <;> rfl
@[simp] theorem State.setLoc_indexMode (s : State) (k : Loc8) (v : Byte) : (s.setLoc k v).indexMode = s.indexMode := by
  rcases k with r | ⟨m, h⟩
  · cases r <;> rfl
  · cases m <;> cases h <;> rfl
@[simp] theorem State.setLoc_nmiPending (s : State) (k : Loc8) (v : Byte) : (s.setLoc k v).nmiPending = s.nmiPending := by
  rcases k with r | ⟨m, h⟩
  · cases r <;> rfl
  · cases m <;> cases h <;> rfl
@[simp] theorem State.setLoc_ticks (s : State) (k : Loc8) (v : Byte) : (s.setLoc k v).ticks = s.ticks := by
  rcases k with r | ⟨m, h⟩
  · cases r <;> rfl
  · cases m <;> cases h <;> rfl
@[simp] theorem State.setLoc_mem (s : State) (k : Loc8) (v : Byte) : (s.setLoc k v).mem = s.mem := by
  rcases k with r | ⟨m, h⟩
  · cases r <;> rfl
  · cases m <;> cases h <;> rfl
@[simp] theorem State.setLoc_history (s : State) (k : Loc8) (v : Byte) : (s.setLoc k v).history = s.history := by
  rcases k with r | ⟨m, h⟩
  · cases r <;> rfl
  · cases m <;> cases h <;> rfl
@[simp] theorem State.setLoc_intLine (s : State) (k : Loc8) (v : Byte) : (s.setLoc k v).intLine = s.intLine := by
  rcases k with r | ⟨m, h⟩
  · cases r <;> rfl
  · cases m <;> cases h <;> rfl
@[simp] theorem State.setLoc_intData (s : State) (k : Loc8) (v : Byte) : (s.setLoc k v).intData = s.intData := by
  rcases k with r | ⟨m, h⟩
  · cases r <;> rfl
  · cases m <;> cases h <;> rfl
@[simp] theorem State.setLoc_params (s : State) (k : Loc8) (v : Byte) : (s.setLoc k v).params = s.params := by
  rcases k with r | ⟨m, h⟩
  · cases r <;> rfl
  · cases m <;> cases h <;> rfl

/-! ### `set16` -/

@[simp] theorem State.set16_shadow (s : State) (k : Reg16) (v : Word) : (s.set16 k v).shadow = s.shadow := by cases k <;> rfl
@[simp] theorem State.set16_pc (s : State) (k : Reg16) (v : Word) : (s.set16 k v).pc = s.pc := by cases k <;> rfl
@[simp] theorem State.set16_wz (s : State) (k : Reg16) (v : Word) : (s.set16 k v).wz = s.wz := by cases k <;> rfl
@[simp] theorem State.set16_i (s : State) (k : Reg16) (v : Word) : (s.set16 k v).i = s.i := by cases k <;> rfl
@[simp] theorem State.set16_r (s : State) (k : Reg16) (v : Word) : (s.set16 k v).r = s.r := by cases k <;> rfl
@[simp] theorem State.set16_iff1 (s : State) (k : Reg16) (v : Word) : (s.set16 k v).iff1 = s.iff1 := by cases k <;> rfl
@[simp] theorem State.set16_iff2 (s : State) (k : Reg16) (v : Word) : (s.set16 k v).iff2 = s.iff2 := by cases k <;> rfl
@[simp] theorem State.set16_im (s : State) (k : Reg16) (v : Word) : (s.set16 k v).im = s.im := by cases k <;> rfl
@[simp] theorem State.set16_halted (s : State) (k : Reg16) (v : Word) : (s.set16 k v).halted = s.halted := by cases k <;> rfl
@[simp] theorem State.set16_eiPending (s : State) (k : Reg16) (v : Word) : (s.set16 k v).eiPending = s.eiPending := by cases k <;> rfl
@[simp] theorem State.set16_indexMode (s : State) (k : Reg16) (v : Word) : (s.set16 k v).indexMode = s.indexMode := by cases k <;> rfl
@[simp] theorem State.set16_nmiPending (s : State) (k : Reg16) (v : Word) : (s.set16 k v).nmiPending = s.nmiPending := by cases k <;> rfl
@[simp] theorem State.set16_ticks (s : State) (k : Reg16) (v : Word) : (s.set16 k v).ticks = s.ticks := by cases k <;> rfl
@[simp] theorem State.set16_mem (s : State) (k : Reg16) (v : Word) : (s.set16 k v).mem = s.mem := by cases k <;> rfl
@[simp] theorem State.set16_history (s : State) (k : Reg16) (v : Word) : (s.set16 k v).history = s.history := by cases k <;> rfl
@[simp] theorem State.set16_intLine (s : State) (k : Reg16) (v : Word) : (s.set16 k v).intLine = s.intLine := by cases k <;> rfl
@[simp] theorem State.set16_intData (s : State) (k : Reg16) (v : Word) : (s.set16 k v).intData = s.intData := by cases k <;> rfl
@[simp] theorem State.set16_params (s : State) (k : Reg16) (v : Word) : (s.set16 k v).params = s.params := by cases k <;> rfl

end Sys2Proof.Machine
end

