-- ==== Sys2Proof/Laws/Registers.lean ====
section
/-! SUPPORT. Words and their bytes, and a register read after a register write (10_state.md rules R31,
R33). -/

namespace Sys2Proof.Machine

@[simp] theorem hiByte_pair (h l : Byte) : hiByte (pair h l) = h := by
  apply BitVec.eq_of_getLsbD_eq
  intro i hi
  simp only [hiByte, pair, BitVec.getLsbD_extractLsb', BitVec.getLsbD_append]
  simp [hi]

@[simp] theorem loByte_pair (h l : Byte) : loByte (pair h l) = l := by
  apply BitVec.eq_of_getLsbD_eq
  intro i hi
  simp only [loByte, pair, BitVec.getLsbD_extractLsb', BitVec.getLsbD_append]
  simp [hi]

@[simp] theorem pair_hiByte_loByte (v : Word) : pair (hiByte v) (loByte v) = v := by
  apply BitVec.eq_of_getLsbD_eq
  intro i hi
  simp only [hiByte, loByte, pair, BitVec.getLsbD_extractLsb', BitVec.getLsbD_append]
  by_cases h : i < 8
  · simp [h]
  · simp only [h, decide_false]
    have : i - 8 < 8 := by omega
    simp [this, show 8 + (i - 8) = i by omega]

/-- A word as a number from its bytes. -/
theorem toNat_pair (h l : Byte) : (pair h l).toNat = 256 * h.toNat + l.toNat := by
  unfold pair
  rw [BitVec.toNat_append, ← Nat.shiftLeft_add_eq_or_of_lt l.isLt, Nat.shiftLeft_eq]
  omega

/-- The high byte as a number. -/
theorem toNat_hiByte (v : Word) : (hiByte v).toNat = v.toNat / 256 := by
  have h := toNat_pair (hiByte v) (loByte v)
  rw [pair_hiByte_loByte] at h
  have := (loByte v).isLt
  omega

/-- The low byte as a number. -/
theorem toNat_loByte (v : Word) : (loByte v).toNat = v.toNat % 256 := by
  have h := toNat_pair (hiByte v) (loByte v)
  rw [pair_hiByte_loByte] at h
  have := (loByte v).isLt
  omega

@[simp] theorem State.get8_set8_self (s : State) (k : Reg8) (v : Byte) : (s.set8 k v).get8 k = v := by
  cases k <;> rfl

theorem State.get8_set8_ne (s : State) {k j : Reg8} (v : Byte) (h : j ≠ k) :
    (s.set8 k v).get8 j = s.get8 j := by
  cases k <;> cases j <;> first | rfl | exact absurd rfl h

@[simp] theorem State.set8_f (s : State) (k : Reg8) (v : Byte) : (s.set8 k v).main.f = s.main.f := by
  cases k <;> rfl

@[simp] theorem State.setLoc_f (s : State) (k : Loc8) (v : Byte) : (s.setLoc k v).main.f = s.main.f := by
  rcases k with r | ⟨m, h⟩
  · cases r <;> rfl
  · cases m <;> cases h <;> rfl

@[simp] theorem State.getLoc_setLoc_self (s : State) (k : Loc8) (v : Byte) : (s.setLoc k v).getLoc k = v := by
  rcases k with r | ⟨m, h⟩
  · cases r <;> rfl
  · cases m <;> cases h <;> simp [State.getLoc, State.setLoc, State.getIdx, State.setIdx]

@[simp] theorem State.get16_set16_self (s : State) (k : Reg16) (v : Word) : (s.set16 k v).get16 k = v := by
  cases k <;> simp [State.get16, State.set16, State.bc, State.de, State.hl, State.af]

/-- Two states with the same registers read the same in a 16-bit register. -/
theorem State.get16_congr {s t : State} (k : Reg16) (hm : t.main = s.main) (hx : t.ix = s.ix)
    (hy : t.iy = s.iy) (hs : t.sp = s.sp) : t.get16 k = s.get16 k := by
  cases k <;> simp [State.get16, State.bc, State.de, State.hl, State.af, hm, hx, hy, hs]

/-- Two states with the same registers read the same in an 8-bit location. -/
theorem State.getLoc_congr {s t : State} (k : Loc8) (hm : t.main = s.main) (hx : t.ix = s.ix)
    (hy : t.iy = s.iy) : t.getLoc k = s.getLoc k := by
  rcases k with r | ⟨m, h⟩
  · cases r <;> simp [State.getLoc, State.get8, hm]
  · cases m <;> cases h <;> simp [State.getLoc, State.getIdx, hx, hy]

/-- Two states with the same main set read the same in an 8-bit register. -/
theorem State.get8_congr {s t : State} (k : Reg8) (hm : t.main = s.main) : t.get8 k = s.get8 k := by
  cases k <;> simp [State.get8, hm]

/-! ### Registers read through an update of something else -/

@[simp] theorem State.get8_tick (s : State) (n : Nat) (k : Reg8) : (s.tick n).get8 k = s.get8 k := by
  cases k <;> rfl
@[simp] theorem State.getLoc_tick (s : State) (n : Nat) (k : Loc8) : (s.tick n).getLoc k = s.getLoc k := by
  rcases k with r | ⟨m, h⟩
  · cases r <;> rfl
  · cases m <;> cases h <;> rfl
@[simp] theorem State.get16_tick (s : State) (n : Nat) (k : Reg16) : (s.tick n).get16 k = s.get16 k := by
  cases k <;> rfl
@[simp] theorem State.bc_tick (s : State) (n : Nat) : (s.tick n).bc = s.bc := rfl
@[simp] theorem State.de_tick (s : State) (n : Nat) : (s.tick n).de = s.de := rfl
@[simp] theorem State.hl_tick (s : State) (n : Nat) : (s.tick n).hl = s.hl := rfl

@[simp] theorem State.get8_setWz (s : State) (v : Word) (k : Reg8) : (s.setWz v).get8 k = s.get8 k := by
  cases k <;> rfl
@[simp] theorem State.getLoc_setWz (s : State) (v : Word) (k : Loc8) : (s.setWz v).getLoc k = s.getLoc k := by
  rcases k with r | ⟨m, h⟩
  · cases r <;> rfl
  · cases m <;> cases h <;> rfl
@[simp] theorem State.get16_setWz (s : State) (v : Word) (k : Reg16) : (s.setWz v).get16 k = s.get16 k := by
  cases k <;> rfl
@[simp] theorem State.bc_setWz (s : State) (v : Word) : (s.setWz v).bc = s.bc := rfl
@[simp] theorem State.de_setWz (s : State) (v : Word) : (s.setWz v).de = s.de := rfl
@[simp] theorem State.hl_setWz (s : State) (v : Word) : (s.setWz v).hl = s.hl := rfl

@[simp] theorem State.get8_record (s : State) (e : Event) (k : Reg8) : (s.record e).get8 k = s.get8 k := by
  cases k <;> rfl
@[simp] theorem State.getLoc_record (s : State) (e : Event) (k : Loc8) : (s.record e).getLoc k = s.getLoc k := by
  rcases k with r | ⟨m, h⟩
  · cases r <;> rfl
  · cases m <;> cases h <;> rfl
@[simp] theorem State.get16_record (s : State) (e : Event) (k : Reg16) : (s.record e).get16 k = s.get16 k := by
  cases k <;> rfl
@[simp] theorem State.bc_record (s : State) (e : Event) : (s.record e).bc = s.bc := rfl
@[simp] theorem State.de_record (s : State) (e : Event) : (s.record e).de = s.de := rfl
@[simp] theorem State.hl_record (s : State) (e : Event) : (s.record e).hl = s.hl := rfl

@[simp] theorem State.get8_jumpTo (s : State) (v : Word) (k : Reg8) : (s.jumpTo v).get8 k = s.get8 k := by
  cases k <;> rfl
@[simp] theorem State.getLoc_jumpTo (s : State) (v : Word) (k : Loc8) : (s.jumpTo v).getLoc k = s.getLoc k := by
  rcases k with r | ⟨m, h⟩
  · cases r <;> rfl
  · cases m <;> cases h <;> rfl
@[simp] theorem State.get16_jumpTo (s : State) (v : Word) (k : Reg16) : (s.jumpTo v).get16 k = s.get16 k := by
  cases k <;> rfl
@[simp] theorem State.bc_jumpTo (s : State) (v : Word) : (s.jumpTo v).bc = s.bc := rfl
@[simp] theorem State.de_jumpTo (s : State) (v : Word) : (s.jumpTo v).de = s.de := rfl
@[simp] theorem State.hl_jumpTo (s : State) (v : Word) : (s.jumpTo v).hl = s.hl := rfl

@[simp] theorem State.get8_setF (s : State) (v : Byte) (k : Reg8) : (s.setF v).get8 k = s.get8 k := by
  cases k <;> rfl
@[simp] theorem State.getLoc_setF (s : State) (v : Byte) (k : Loc8) : (s.setF v).getLoc k = s.getLoc k := by
  rcases k with r | ⟨m, h⟩
  · cases r <;> rfl
  · cases m <;> cases h <;> rfl
@[simp] theorem State.bc_setF (s : State) (v : Byte) : (s.setF v).bc = s.bc := rfl
@[simp] theorem State.de_setF (s : State) (v : Byte) : (s.setF v).de = s.de := rfl
@[simp] theorem State.hl_setF (s : State) (v : Byte) : (s.setF v).hl = s.hl := rfl

end Sys2Proof.Machine
end

