-- ==== Sys2Proof/Laws/Frame.lean ====
section
/-! SUPPORT. Frames compose, and the frame of each update and shared operation. -/

namespace Sys2Proof.Safety

open Sys2Proof.Machine

variable {s t u : State} {ps qs : List Part} {xs ys : List Word}

/-- Nothing changes from a state to itself. -/
theorem Frame.refl (s : State) : Frame [] [] s s := ⟨fun _ _ => rfl, fun _ _ => rfl⟩

/-- Frames compose. -/
theorem Frame.trans (h : Frame ps xs s t) (g : Frame qs ys t u) : Frame (ps ++ qs) (xs ++ ys) s u := by
  constructor
  · intro p hp
    rw [List.mem_append, not_or] at hp
    rw [g.1 p hp.2, h.1 p hp.1]
  · intro a ha
    rw [List.mem_append, not_or] at ha
    rw [g.2 a ha.2, h.2 a ha.1]

/-- A frame may name more. -/
theorem Frame.mono (h : Frame ps xs s t) (hp : ∀ p ∈ ps, p ∈ qs) (hx : ∀ a ∈ xs, a ∈ ys) : Frame qs ys s t :=
  ⟨fun p hq => h.1 p fun hm => hq (hp p hm), fun a hq => h.2 a fun hm => hq (hx a hm)⟩

/-- An update that leaves memory alone frames by its parts. -/
theorem Frame.of_mem_eq (hm : t.mem = s.mem) (h : ∀ p, p ∉ ps → content t p = content s p) :
    Frame ps [] s t :=
  ⟨h, fun a _ => by unfold byteAt; rw [hm]⟩

theorem frame_tick (s : State) (n : Nat) : Frame [.ticks] [] s (s.tick n) :=
  Frame.of_mem_eq rfl fun p hp => by cases p <;> first | rfl | simp at hp

theorem frame_record (s : State) (e : Event) : Frame [.history] [] s (s.record e) :=
  Frame.of_mem_eq rfl fun p hp => by cases p <;> first | rfl | simp at hp

theorem frame_setWz (s : State) (v : Word) : Frame [.wz] [] s (s.setWz v) :=
  Frame.of_mem_eq rfl fun p hp => by cases p <;> first | rfl | simp at hp

theorem frame_setF (s : State) (v : Byte) : Frame [.f] [] s (s.setF v) :=
  Frame.of_mem_eq rfl fun p hp => by cases p <;> first | rfl | simp at hp

theorem frame_setAF (s : State) (r : Byte × Byte) : Frame [.a, .f] [] s (s.setAF r) :=
  Frame.of_mem_eq rfl fun p hp => by cases p <;> first | rfl | simp at hp

theorem frame_jumpTo (s : State) (v : Word) : Frame [.pc, .wz] [] s (s.jumpTo v) :=
  Frame.of_mem_eq rfl fun p hp => by cases p <;> first | rfl | simp at hp

theorem frame_readMem (s : State) (a : Word) : Frame [.history] [] s (s.readMem a).2 := frame_record _ _

theorem frame_writeMem (s : State) (a : Word) (v : Byte) : Frame [.history] [a] s (s.writeMem a v) := by
  constructor
  · intro p hp
    cases p <;> first | rfl | simp at hp
  · intro b hb
    exact Memory.read_write_ne _ _ fun h => hb (by simp [BitVec.eq_of_toNat_eq h])

theorem frame_set8 (s : State) (k : Reg8) (v : Byte) : Frame [part8 k] [] s (s.set8 k v) := by
  refine Frame.of_mem_eq (by simp) fun p hp => ?_
  cases k <;> cases p <;> first | rfl | simp [part8] at hp

theorem frame_setLoc (s : State) (k : Loc8) (v : Byte) : Frame [partLoc k] [] s (s.setLoc k v) := by
  rcases k with r | ⟨m, h⟩
  · exact frame_set8 s r v
  · refine Frame.of_mem_eq (by simp) fun p hp => ?_
    cases m <;> cases h <;> cases p <;>
      first
      | rfl
      | (simp [partLoc] at hp; done)
      | simp [content, State.setLoc, State.setIdx, State.getIdx]

theorem frame_set16 (s : State) (k : Reg16) (v : Word) : Frame (parts16 k) [] s (s.set16 k v) := by
  refine Frame.of_mem_eq (by simp) fun p hp => ?_
  cases k <;> cases p <;> first | rfl | simp [parts16] at hp

theorem frame_pc (s : State) (v : Word) : Frame [.pc] [] s { s with pc := v } :=
  Frame.of_mem_eq rfl fun p hp => by cases p <;> first | rfl | simp at hp

theorem frame_sp (s : State) (v : Word) : Frame [.sp] [] s { s with sp := v } :=
  Frame.of_mem_eq rfl fun p hp => by cases p <;> first | rfl | simp at hp

/-! ### Shared operations -/

/-- Under `BUS_MODEL = ram` the bus answers the byte memory holds (20_memory.md rule R72). -/
theorem busByte_ram {s : State} (h : s.params.busModel = .ram) (a : Word) : s.busByte a = byteAt s a := by
  unfold State.busByte byteAt
  rw [h]

/-- The bus answers by memory, history and parameters alone. -/
theorem busByte_congr (hm : t.mem = s.mem) (hh : t.history = s.history) (hp : t.params = s.params) (a : Word) :
    t.busByte a = s.busByte a := by
  unfold State.busByte
  rw [hm, hh, hp]

/-- The byte just stored is the byte memory holds. -/
theorem byteAt_writeMem_self (a : Word) (v : Byte) (h : Memory.wf s.mem = true) :
    byteAt (s.writeMem a v) a = v :=
  Memory.read_write_self _ _ h

/-- The effective address and WZ after `resolve` (30_encoding.md rule R120). -/
theorem resolve_eq (s : State) (o : MemOp) : s.resolve o = (addressOf s o, s.setWz (wzAfter s o)) := by
  rcases o with _ | ⟨m, d⟩
  · rfl
  · cases m <;> rfl

/-- Everything reading a memory operand can do. -/
theorem readOperand_eq (s : State) (o : MemOp) :
    s.readOperand o = (s.busByte (addressOf s o),
      (s.setWz (wzAfter s o)).record (.read (addressOf s o) (s.busByte (addressOf s o)))) := by
  unfold State.readOperand
  rw [resolve_eq]
  rfl

/-- Everything storing to a memory operand can do. -/
theorem writeOperand_eq (s : State) (o : MemOp) (v : Byte) :
    s.writeOperand o v = (s.setWz (wzAfter s o)).writeMem (addressOf s o) v := by
  unfold State.writeOperand
  rw [resolve_eq]

/-- Everything a read-modify-write of a memory operand can do. -/
theorem updateOperand_eq (s : State) (o : MemOp) (g : Byte → Byte → Byte × Byte) :
    let ea := addressOf s o
    let r := g (s.busByte ea) s.main.f
    s.updateOperand o g =
      (r.1, (((s.setWz (wzAfter s o)).record (.read ea (s.busByte ea))).setF r.2).writeMem ea r.1) := by
  unfold State.updateOperand
  rw [resolve_eq]
  rfl

/-- Everything reading an 8-bit source operand can do. -/
theorem readSrc_eq (s : State) (o : Src8) :
    (s.readSrc o).1 = sourceByte s o ∧ (s.readSrc o).2.wz = sourceWz s o ∧
      (s.readSrc o).2.history = sourceEvents s o ++ s.history ∧ (s.readSrc o).2.main = s.main ∧
      Frame [.wz, .history] [] s (s.readSrc o).2 := by
  rcases o with k | mo | n
  · exact ⟨rfl, rfl, rfl, rfl, (Frame.refl s).mono (by simp) (by simp)⟩
  · simp only [State.readSrc, readOperand_eq]
    exact ⟨rfl, rfl, rfl, rfl, (frame_setWz s _).trans (frame_record _ _)⟩
  · exact ⟨rfl, rfl, rfl, rfl, (Frame.refl s).mono (by simp) (by simp)⟩

/-- Everything `readMem16` can do. -/
theorem readMem16_eq (s : State) (a : Word) :
    (s.readMem16 a).1 = wordAt s a ∧ (s.readMem16 a).2.history = wordReads s a ++ s.history ∧
      (s.readMem16 a).2.main = s.main ∧ Frame [.history] [] s (s.readMem16 a).2 :=
  ⟨rfl, rfl, rfl, ((frame_readMem s a).trans (frame_readMem _ _)).mono (by simp) (by simp)⟩

/-- Everything `writeMem16` can do. -/
theorem writeMem16_eq (s : State) (a v : Word) :
    (s.writeMem16 a v).history = .write (a + 1) (hiByte v) :: .write a (loByte v) :: s.history ∧
      (Memory.wf s.mem = true →
        byteAt (s.writeMem16 a v) a = loByte v ∧ byteAt (s.writeMem16 a v) (a + 1) = hiByte v) ∧
      Frame [.history] [a, a + 1] s (s.writeMem16 a v) := by
  refine ⟨rfl, fun h => ⟨?_, ?_⟩, ((frame_writeMem s _ _).trans (frame_writeMem _ _ _)).mono (by simp) (by simp)⟩
  · have hne : a.toNat ≠ (a + 1).toNat := fun h => by
      have := BitVec.eq_of_toNat_eq h
      bv_omega
    exact (Memory.read_write_ne _ _ hne).trans (Memory.read_write_self _ _ h)
  · exact Memory.read_write_self _ _ (Memory.wf_write _ _ h)

/-- Everything `push16` can do (20_memory.md rule R75). -/
theorem push16_eq (s : State) (v : Word) :
    (s.push16 v).sp = s.sp - 2 ∧
      (s.push16 v).history = .write (s.sp - 2) (loByte v) :: .write (s.sp - 1) (hiByte v) :: s.history ∧
      (s.push16 v).mem = Memory.write (Memory.write s.mem (s.sp - 1).toNat (hiByte v))
        (s.sp - 2).toNat (loByte v) ∧
      (Memory.wf s.mem = true →
        byteAt (s.push16 v) (s.sp - 1) = hiByte v ∧ byteAt (s.push16 v) (s.sp - 2) = loByte v) ∧
      Frame [.sp, .history] [s.sp - 1, s.sp - 2] s (s.push16 v) := by
  have h2 : s.sp - 1 - 1 = s.sp - 2 := by bv_omega
  have hm : (s.push16 v).mem = Memory.write (Memory.write s.mem (s.sp - 1).toNat (hiByte v))
      (s.sp - 2).toNat (loByte v) := by
    rw [← h2]; rfl
  have hne : (s.sp - 1).toNat ≠ (s.sp - 2).toNat := fun h => by
    have := BitVec.eq_of_toNat_eq h
    bv_omega
  refine ⟨h2, ?_, hm, fun h => ⟨?_, ?_⟩, ?_⟩
  · rw [← h2]; rfl
  · unfold byteAt
    rw [hm, Memory.read_write_ne _ _ hne, Memory.read_write_self _ _ h]
  · unfold byteAt
    rw [hm, Memory.read_write_self _ _ (Memory.wf_write _ _ h)]
  · have e : s.push16 v = ({ ({ s with sp := s.sp - 1 } : State).writeMem (s.sp - 1) (hiByte v) with
        sp := s.sp - 1 - 1 } : State).writeMem (s.sp - 1 - 1) (loByte v) := rfl
    rw [e, h2]
    exact ((((frame_sp s _).trans (frame_writeMem _ _ _)).trans (frame_sp _ _)).trans
      (frame_writeMem _ _ _)).mono (by simp) (by simp)

/-- Everything `pop16` can do (20_memory.md rule R75). -/
theorem pop16_eq (s : State) :
    s.pop16.1 = wordAt s s.sp ∧ s.pop16.2.sp = s.sp + 2 ∧
      s.pop16.2.history = wordReads s s.sp ++ s.history ∧ s.pop16.2.main = s.main ∧
      Frame [.sp, .history] [] s s.pop16.2 := by
  refine ⟨rfl, ?_, rfl, rfl, ?_⟩
  · show s.sp + 1 + 1 = s.sp + 2
    bv_omega
  · exact ((((frame_readMem s _).trans (frame_sp _ _)).trans (frame_readMem _ _)).trans
      (frame_sp _ _)).mono (by simp) (by simp)

end Sys2Proof.Safety
end

