-- ==== Sys2Proof/Laws/Block.lean ====
section
/-! SUPPORT. Everything an iteration of a block instruction and an indexed read-modify-write can do
(45_block.md rules R360 to R364, 44_rotate_shift_bit.md rule R341). -/

namespace Sys2Proof.Safety

open Sys2Proof.Machine

/-- The step of the I-form and the D-form. -/
theorem blockStep_eq (up : Bool) : blockStep up = if up then 1 else -1 := by cases up <;> rfl

/-- One transfer iteration (45_block.md rule R360). -/
theorem ldxIterate_eq (s : State) (up : Bool) :
    let v := s.busByte s.hl
    let t := s.blockIterate .ld up
    (Memory.wf s.mem = true → byteAt t s.de = v) ∧ t.hl = s.hl + blockStep up ∧
      t.de = s.de + blockStep up ∧ t.bc = s.bc - 1 ∧
      t.main.f = ldxFlags v s.main.a s.main.f (s.bc - 1) ∧ t.pc = s.pc ∧ t.wz = s.wz ∧
      t.history = .write s.de v :: .read s.hl v :: s.history ∧
      Frame [.f, .b, .c, .d, .e, .h, .l, .history] [s.de] s t := by
  refine ⟨fun h => Memory.read_write_self _ _ h, pair_hiByte_loByte _, pair_hiByte_loByte _,
    pair_hiByte_loByte _, rfl, rfl, rfl, rfl, ?_⟩
  exact ((((((frame_readMem _ _).trans (frame_writeMem _ _ _)).trans (frame_set16 _ .hl _)).trans
    (frame_set16 _ .de _)).trans (frame_set16 _ .bc _)).trans (frame_setF _ _)).mono
    (by simp [parts16]) (by simp)

/-- One compare iteration (45_block.md rule R361). -/
theorem cpxIterate_eq (s : State) (up : Bool) :
    let v := s.busByte s.hl
    let t := s.blockIterate .cp up
    t.hl = s.hl + blockStep up ∧ t.bc = s.bc - 1 ∧
      t.main.f = cpxFlags s.main.a v s.main.f (s.bc - 1) ∧ t.pc = s.pc ∧ t.wz = s.wz + blockStep up ∧
      t.history = .read s.hl v :: s.history ∧
      Frame [.f, .b, .c, .h, .l, .wz, .history] [] s t := by
  refine ⟨pair_hiByte_loByte _, pair_hiByte_loByte _, rfl, rfl, rfl, rfl, ?_⟩
  exact (((((frame_readMem _ _).trans (frame_set16 _ .hl _)).trans (frame_set16 _ .bc _)).trans
    (frame_setWz _ _)).trans (frame_setF _ _)).mono (by simp [parts16]) (by simp)

/-- One input iteration (45_block.md rule R362). -/
theorem inxIterate_eq (s : State) (up : Bool) :
    let v := Config.ioRead s.history s.bc
    let t := s.blockIterate .inp up
    (Memory.wf s.mem = true → byteAt t s.hl = v) ∧ t.main.b = s.main.b - 1 ∧
      t.hl = s.hl + blockStep up ∧ t.wz = s.bc + blockStep up ∧
      t.main.f = ioxFlags (s.main.b - 1) v (s.main.c + loByte (blockStep up)) ∧ t.pc = s.pc ∧
      t.history = .write s.hl v :: .input s.bc v :: s.history ∧
      Frame [.f, .b, .h, .l, .wz, .history] [s.hl] s t := by
  refine ⟨fun h => Memory.read_write_self _ _ h, rfl, pair_hiByte_loByte _, rfl, rfl, rfl, rfl, ?_⟩
  have hin : Frame [.history] [] s (s.ioRead s.bc).2 := frame_record _ _
  exact (((((hin.trans (frame_writeMem _ _ _)).trans (frame_set8 _ .b _)).trans (frame_set16 _ .hl _)).trans
    (frame_setWz _ _)).trans (frame_setF _ _)).mono (by simp [parts16, part8]) (by simp)

/-- One output iteration (45_block.md rule R363). -/
theorem outxIterate_eq (s : State) (up : Bool) :
    let v := s.busByte s.hl
    let port := pair (s.main.b - 1) s.main.c
    let t := s.blockIterate .outp up
    t.main.b = s.main.b - 1 ∧ t.hl = s.hl + blockStep up ∧ t.wz = port + blockStep up ∧
      t.main.f = ioxFlags (s.main.b - 1) v t.main.l ∧ t.pc = s.pc ∧
      t.history = .output port v :: .read s.hl v :: s.history ∧
      Frame [.f, .b, .h, .l, .wz, .history] [] s t := by
  refine ⟨rfl, pair_hiByte_loByte _, rfl, rfl, rfl, rfl, ?_⟩
  have hout : ∀ (s : State) (a : Word) (v : Byte), Frame [.history] [] s (s.ioWrite a v) :=
    fun _ _ _ => frame_record _ _
  exact (((((frame_readMem _ _).trans (frame_set8 _ .b _)).trans (hout _ _ _)).trans
    (frame_set16 _ .hl _)).trans ((frame_setWz _ _).trans (frame_setF _ _))).mono
    (by simp [parts16, part8]) (by simp)

/-- A block instruction that repeats (45_block.md rule R364). -/
theorem block_again {s : State} {fam : BlockFamily} {up rep : Bool}
    (h : (rep && (s.blockIterate fam up).blockContinues fam) = true) :
    s.block fam up rep = ((s.blockIterate fam up).tick 16).blockRewind fam := by
  have h' : (rep && ((s.blockIterate fam up).tick 16).blockContinues fam) = true := by
    cases fam <;> exact h
  simp only [State.block, h', if_true]

/-- A block instruction that ends. -/
theorem block_ends {s : State} {fam : BlockFamily} {up rep : Bool}
    (h : (rep && (s.blockIterate fam up).blockContinues fam) = false) :
    s.block fam up rep = (s.blockIterate fam up).tick 16 := by
  have h' : (rep && ((s.blockIterate fam up).tick 16).blockContinues fam) = false := by
    cases fam <;> exact h
  simp [State.block, h']

/-- The second destination of an indexed form (44_rotate_shift_bit.md rule R341). -/
theorem copyIndexed_eq {s u : State} (hp : u.params = s.params) (rot : Bool) (z : Option Reg8) (v : Byte) :
    u.copyIndexed rot z v =
      match copyTarget s rot z with
      | none => u
      | some k => u.set8 k v := by
  unfold State.copyIndexed copyTarget regCopies
  rw [hp]
  cases s.params.ddcbCopy <;> rcases z with _ | z <;> try cases z
  all_goals cases rot <;> rfl

/-- An indexed read-modify-write (44_rotate_shift_bit.md rules R340, R341). -/
theorem modifyIndexed_eq (s : State) (m : IdxReg) (d : Byte) (rot : Bool) (z : Option Reg8)
    (g : Byte → Byte → Byte × Byte) :
    let ea := addressOf s (.atIdx m d)
    let r := g (s.busByte ea) s.main.f
    let t := s.modifyIndexed m d rot z g
    (Memory.wf s.mem = true → byteAt t ea = r.1) ∧ t.wz = ea ∧ t.main.f = r.2 ∧
      (∀ k, copyTarget s rot z = some k → t.get8 k = r.1) ∧
      t.history = .write ea r.1 :: .read ea (s.busByte ea) :: s.history ∧
      Frame ([.f, .wz, .history, .ticks] ++ ((copyTarget s rot z).map part8).toList) [ea] s t := by
  simp only [State.modifyIndexed, updateOperand_eq]
  generalize hE : addressOf s (.atIdx m d) = ea
  generalize g (s.busByte ea) s.main.f = r
  have hw : wzAfter s (.atIdx m d) = ea := hE
  rw [hw]
  generalize hU : (((s.setWz ea).record (.read ea (s.busByte ea))).setF r.2).writeMem ea r.1 = u
  have hu : Frame [.f, .wz, .history] [ea] s u := by
    rw [← hU]
    exact ((((frame_setWz _ _).trans (frame_record _ _)).trans (frame_setF _ _)).trans
      (frame_writeMem _ _ _)).mono (by simp) (by simp)
  have hr : Memory.wf s.mem = true → byteAt u ea = r.1 := by
    rw [← hU]
    exact fun h => byteAt_writeMem_self _ _ h
  have hp : u.params = s.params := by rw [← hU]; rfl
  rw [copyIndexed_eq hp]
  cases copyTarget s rot z with
  | none =>
    refine ⟨hr, ?_, ?_, nofun, ?_, (hu.trans (frame_tick _ _)).mono (by simp) (by simp)⟩ <;>
      simp [← hU]
  | some k =>
    refine ⟨fun h => ?_, ?_, ?_, ?_, ?_,
      ((hu.trans (frame_set8 _ _ _)).trans (frame_tick _ _)).mono (by simp) (by simp)⟩
    · simp only [byteAt, State.tick_mem, State.set8_mem]
      exact hr h
    all_goals simp [← hU]

end Sys2Proof.Safety
end

