-- ==== Sys2Proof/Laws/Decode.lean ====
section
/-! SUPPORT. The decoder looks at no byte past the instruction (30_encoding.md rules R119, R122), decoding
the bytes of an instruction of each length, and the instructions of table entries are well formed. -/

namespace Sys2Proof

open Sys2Proof.Machine (forall_fin8)

/-- An opcode other than ED reads no byte past its length. -/
theorem decodeOpAt_eq (m : IndexMode) (op b1 b2 b3 : Byte) (h : op ≠ 0xED) :
    decodeOpAt m op b1 b2 b3 =
      match instrLength m op 0 with
      | 1 => decodeOpAt m op 0 0 0
      | 2 => decodeOpAt m op b1 0 0
      | _ => decodeOpAt m op b1 b2 0 := by
  have key : ∀ n, n < 256 → BitVec.ofNat 8 n ≠ 0xED →
      decodeOpAt m (BitVec.ofNat 8 n) b1 b2 b3 =
        match instrLength m (BitVec.ofNat 8 n) 0 with
        | 1 => decodeOpAt m (BitVec.ofNat 8 n) 0 0 0
        | 2 => decodeOpAt m (BitVec.ofNat 8 n) b1 0 0
        | _ => decodeOpAt m (BitVec.ofNat 8 n) b1 b2 0 := by
    intro n hn
    cases m <;> interval_cases n <;> first | exact fun _ => rfl | exact fun h => absurd rfl h
  simpa using key op.toNat op.isLt (by simpa using h)

/-- The length of an opcode other than ED does not depend on the next byte. -/
theorem instrLength_eq (m : IndexMode) (op b1 : Byte) (h : op ≠ 0xED) :
    instrLength m op b1 = instrLength m op 0 := by
  unfold instrLength
  rw [if_neg h, if_neg h]

/-- An ED entry without operand bytes does not depend on them. -/
theorem decodeED_eq (op : Byte) (nn : Word) (h : edOperandCount op = 0) : decodeED op nn = decodeED op 0 := by
  have key : ∀ n, n < 256 → edOperandCount (BitVec.ofNat 8 n) = 0 →
      decodeED (BitVec.ofNat 8 n) nn = decodeED (BitVec.ofNat 8 n) 0 := by
    intro n hn
    interval_cases n <;> first | exact fun _ => rfl | exact fun h => absurd h (by decide)
  simpa using key op.toNat op.isLt (by simpa using h)

/-- A byte that is an instruction of its own. -/
theorem decode_one (m : IndexMode) (b0 : Byte) (rest : List Byte) (i : Instr)
    (h1 : ∀ b1, instrLength m b0 b1 = 1) (h2 : ∀ b1 b2 b3, (decodeOpAt m b0 b1 b2 b3).toInstr = i) :
    decode m ([b0] ++ rest) = .ok (i, rest) := by
  simp [decode, h1, decodeFetched, decodeOp, h2]

/-- Two bytes that are an instruction. -/
theorem decode_two (m : IndexMode) (b0 b1 : Byte) (rest : List Byte) (i : Instr)
    (h1 : instrLength m b0 b1 = 2) (h2 : ∀ b2 b3, (decodeOpAt m b0 b1 b2 b3).toInstr = i) :
    decode m ([b0, b1] ++ rest) = .ok (i, rest) := by
  simp [decode, h1, decodeFetched, decodeOp, h2]

/-- Three bytes that are an instruction. -/
theorem decode_three (m : IndexMode) (b0 b1 b2 : Byte) (rest : List Byte) (i : Instr)
    (h1 : instrLength m b0 b1 = 3) (h2 : ∀ b3, (decodeOpAt m b0 b1 b2 b3).toInstr = i) :
    decode m ([b0, b1, b2] ++ rest) = .ok (i, rest) := by
  simp [decode, h1, decodeFetched, decodeOp, h2]

/-- Four bytes that are an instruction. -/
theorem decode_four (m : IndexMode) (b0 b1 b2 b3 : Byte) (rest : List Byte) (i : Instr)
    (h1 : instrLength m b0 b1 = 4) (h2 : (decodeOpAt m b0 b1 b2 b3).toInstr = i) :
    decode m ([b0, b1, b2, b3] ++ rest) = .ok (i, rest) := by
  simp [decode, h1, decodeFetched, decodeOp, h2]

/-- The ED entry of any operation byte is well formed (30_encoding.md rule R116). -/
theorem decodeED_wellFormed (op : Byte) (nn : Word) : (decodeED op nn).wellFormed = true := by
  have key : ∀ n, n < 256 → (decodeED (BitVec.ofNat 8 n) nn).wellFormed = true := by
    intro n hn
    interval_cases n <;> rfl
  simpa using key op.toNat op.isLt

/-- The ED instruction of a well-formed ED entry is well formed. -/
theorem edInstr_wellFormed (e : EdOp) (h : e.wellFormed = true) : (edInstr e).wellFormed = true := by
  cases e with
  | inReg k => cases k <;> rfl
  | outReg k => cases k <;> rfl
  | sbcHL p => cases p <;> rfl
  | adcHL p => cases p <;> rfl
  | store p nn => cases p <;> rfl
  | load p nn => cases p <;> rfl
  | im y =>
    have all : ∀ y, (edInstr (.im y)).wellFormed = true := forall_fin8 rfl rfl rfl rfl rfl rfl rfl rfl
    exact all y
  | block fam up rep => cases fam <;> cases up <;> cases rep <;> rfl
  | retn y => exact h
  | noni op => exact h
  | _ => rfl

end Sys2Proof
end

