-- ==== Sys2Proof/Laws/Step.lean ====
section
/-! SUPPORT. The parts of a step: fetching, the start of an instruction, the shared part of an interrupt
acceptance, the return from a subroutine or handler, and which instructions are one from a handler. -/

namespace Sys2Proof.Safety

open Sys2Proof.Machine

/-- An M1 fetch (10_state.md rules R35, R37). -/
theorem frame_fetchOpcode (s : State) : Frame [.pc, .r, .history] [] s s.fetchOpcode.2 :=
  Frame.of_mem_eq rfl fun p hp => by cases p <;> first | rfl | simp at hp

/-- Operand fetches under `BUS_MODEL = ram`: the bytes at PC, in address order (20_memory.md rule R84). -/
theorem fetchOperands_eq (n : Nat) (s : State) (h : s.params.busModel = .ram) :
    (s.fetchOperands n).1 = (List.range n).map (fun k => byteAt s (s.pc + BitVec.ofNat 16 k)) ∧
      (s.fetchOperands n).2.pc = s.pc + BitVec.ofNat 16 n ∧ (s.fetchOperands n).2.r = s.r ∧
      Frame [.pc, .history] [] s (s.fetchOperands n).2 := by
  induction n generalizing s with
  | zero => exact ⟨rfl, by simp [State.fetchOperands], rfl, (Frame.refl s).mono (by simp) (by simp)⟩
  | succ n ih =>
    have hb : Frame [.pc, .history] [] s s.fetchByte.2 :=
      Frame.of_mem_eq rfl fun p hp => by cases p <;> first | rfl | simp at hp
    obtain ⟨h1, h2, h3, h4⟩ := ih s.fetchByte.2 h
    refine ⟨?_, ?_, h3, (hb.trans h4).mono (by simp) (by simp)⟩
    · rw [List.range_succ_eq_map, List.map_cons, List.map_map]
      show s.busByte s.pc :: (State.fetchOperands n s.fetchByte.2).1 = _
      rw [busByte_ram h, h1]
      congr 1
      · simp
      · apply List.map_congr_left
        intro k _
        show byteAt s (s.pc + 1 + BitVec.ofNat 16 k) = byteAt s (s.pc + BitVec.ofNat 16 (k + 1))
        rw [BitVec.ofNat_add]
        congr 1
        ac_rfl
    · refine h2.trans ?_
      show s.pc + 1 + BitVec.ofNat 16 n = _
      rw [BitVec.ofNat_add]
      ac_rfl

/-- The start of an instruction (30_encoding.md rule R118). -/
theorem frame_startInstr (s : State) (op : Byte) : Frame [.eiPending, .indexMode] [] s (s.startInstr op) := by
  unfold State.startInstr
  split
  · exact (Frame.refl s).mono (by simp) (by simp)
  · exact Frame.of_mem_eq rfl fun p hp => by cases p <;> first | rfl | simp at hp

/-- The shared part of a maskable acceptance (60_exceptions.md rules R507, R511). -/
theorem frame_acknowledgeInt (s : State) (v : Byte) :
    Frame [.halted, .pc, .r, .eiPending, .iff1, .iff2, .history] [] s (s.acknowledgeInt v) :=
  Frame.of_mem_eq rfl fun p hp => by cases p <;> first | rfl | simp at hp

/-- Everything entering a handler can do (60_exceptions.md rules R506, R509). -/
theorem enterHandler_eq (s : State) (target : Word) :
    (s.enterHandler target).pc = target ∧ (s.enterHandler target).wz = target ∧
      (s.enterHandler target).sp = s.sp - 2 ∧
      Frame [.pc, .wz, .sp, .history] [s.sp - 1, s.sp - 2] s (s.enterHandler target) :=
  ⟨rfl, rfl, (push16_eq s s.pc).1,
    ((push16_eq s s.pc).2.2.2.2.trans (frame_jumpTo _ _)).mono (by simp) (by simp)⟩

/-- Everything a return can do (47_control_flow.md rule R409). -/
theorem returnToCaller_eq (s : State) :
    s.returnToCaller.pc = wordAt s s.sp ∧ s.returnToCaller.wz = wordAt s s.sp ∧
      s.returnToCaller.sp = s.sp + 2 ∧ s.returnToCaller.history = wordReads s s.sp ++ s.history ∧
      Frame [.pc, .wz, .sp, .history] [] s s.returnToCaller := by
  obtain ⟨h1, h2, h3, _, h5⟩ := pop16_eq s
  exact ⟨h1, h1, h2, h3, (h5.trans (frame_jumpTo _ _)).mono (by simp) (by simp)⟩

/-- The return from a handler: a return, and IFF1 takes IFF2 (47_control_flow.md rules R411, R412). -/
theorem frame_returnFromHandler (s : State) :
    Frame [.pc, .wz, .sp, .history, .iff1] [] s s.returnFromHandler := by
  have h : Frame [.iff1] [] s.returnToCaller s.returnFromHandler :=
    Frame.of_mem_eq rfl fun p hp => by cases p <;> first | rfl | simp at hp
  exact ((returnToCaller_eq s).2.2.2.2.trans h).mono (by simp) (by simp)

/-! ### Which instructions return from a handler -/

/-- An ED entry's instruction is RETI or RETN exactly when the entry is. -/
theorem returnsFromHandler_edInstr (e : EdOp) : returnsFromHandler (edInstr e) = edReturnsFromHandler e := by
  cases e with
  | inReg k => cases k <;> rfl
  | outReg k => cases k <;> rfl
  | sbcHL p => cases p <;> rfl
  | adcHL p => cases p <;> rfl
  | store p nn => cases p <;> rfl
  | load p nn => cases p <;> rfl
  | im y =>
    have all : ∀ y, returnsFromHandler (edInstr (.im y)) = false := forall_fin8 rfl rfl rfl rfl rfl rfl rfl rfl
    exact all y
  | block fam up rep => cases fam <;> cases up <;> cases rep <;> rfl
  | _ => rfl

/-- A table entry's instruction returns from a handler exactly when its ED entry does. -/
theorem returnsFromHandler_toInstr (p : Op) :
    returnsFromHandler p.toInstr =
      match p with
      | .ed e | .edUnder _ e => edReturnsFromHandler e
      | _ => false := by
  cases p with
  | ld m y z => cases m <;> cases y <;> cases z <;> rfl
  | ldImm m y n => cases m <;> cases y <;> rfl
  | ldFrom o y => rcases o with _ | ⟨m, d⟩ <;> try cases m
                  all_goals cases y <;> rfl
  | ldTo o y => rcases o with _ | ⟨m, d⟩ <;> try cases m
                all_goals cases y <;> rfl
  | ldToImm o n => rcases o with _ | ⟨m, d⟩ <;> try cases m
                   all_goals rfl
  | ld16Imm m p nn => cases m <;> cases p <;> rfl
  | ld16From m nn => cases m <;> rfl
  | ld16To m nn => cases m <;> rfl
  | ldSp m => cases m <;> rfl
  | push m p => cases m <;> cases p <;> rfl
  | pop m p => cases m <;> cases p <;> rfl
  | exSp m => cases m <;> rfl
  | aluReg m a z => cases m <;> cases a <;> cases z <;> rfl
  | aluMem a o => rcases o with _ | ⟨m, d⟩ <;> try cases m
                  all_goals cases a <;> rfl
  | aluImm a n => cases a <;> rfl
  | incReg m y => cases m <;> cases y <;> rfl
  | decReg m y => cases m <;> cases y <;> rfl
  | incMem o => rcases o with _ | ⟨m, d⟩ <;> try cases m
                all_goals rfl
  | decMem o => rcases o with _ | ⟨m, d⟩ <;> try cases m
                all_goals rfl
  | add16 m p => cases m <;> cases p <;> rfl
  | inc16 m p => cases m <;> cases p <;> rfl
  | dec16 m p => cases m <;> cases p <;> rfl
  | rotReg k z => cases k <;> cases z <;> rfl
  | rotHL k => cases k <;> rfl
  | rotIdx m k z d => rcases z with _ | z <;> try cases z
                      all_goals cases m <;> cases k <;> rfl
  | bitReg b z => cases z <;> revert b <;> exact forall_fin8 rfl rfl rfl rfl rfl rfl rfl rfl
  | bitHL b => revert b; exact forall_fin8 rfl rfl rfl rfl rfl rfl rfl rfl
  | bitIdx m b z d => cases m <;> revert b <;> exact forall_fin8 rfl rfl rfl rfl rfl rfl rfl rfl
  | resReg b z => cases z <;> revert b <;> exact forall_fin8 rfl rfl rfl rfl rfl rfl rfl rfl
  | resHL b => revert b; exact forall_fin8 rfl rfl rfl rfl rfl rfl rfl rfl
  | resIdx m b z d =>
    rcases z with _ | z <;> try cases z
    all_goals cases m <;> revert b <;> exact forall_fin8 rfl rfl rfl rfl rfl rfl rfl rfl
  | setReg b z => cases z <;> revert b <;> exact forall_fin8 rfl rfl rfl rfl rfl rfl rfl rfl
  | setHL b => revert b; exact forall_fin8 rfl rfl rfl rfl rfl rfl rfl rfl
  | setIdx m b z d =>
    rcases z with _ | z <;> try cases z
    all_goals cases m <;> revert b <;> exact forall_fin8 rfl rfl rfl rfl rfl rfl rfl rfl
  | jpCc k nn => cases k <;> rfl
  | jrCc k e => match k with
                | 0 => rfl
                | 1 => rfl
                | 2 => rfl
                | 3 => rfl
  | jpReg m => cases m <;> rfl
  | callCc k nn => cases k <;> rfl
  | retCc k => cases k <;> rfl
  | rst y => revert y; exact forall_fin8 rfl rfl rfl rfl rfl rfl rfl rfl
  | index x m => cases x <;> cases m <;> rfl
  | ed e => exact returnsFromHandler_edInstr e
  | edUnder x e => cases x <;> rfl
  | _ => rfl

end Sys2Proof.Safety
end

