-- ==== Sys2Proof/Tests/Decode.lean ====
section
/-! SUPPORT. A word for every constructor of `Instr`, written out from its row of spec/opcode_table.json
(operand bytes n = 34, nn = 34 12, d = 85, e = FE), and the instruction the decoder must read from it. -/

namespace Sys2Proof.Tests

/-- The decoder reads `i` from the word `w` of `nbits` bits. -/
def Reads (nbits w : Nat) (i : Instr) : Prop := decodeTableWord nbits w = some i

theorem test_decode_main_1_0 :
    Reads 8 0x00 .nop ∧ Reads 8 0x02 .ld_atBC_A ∧ Reads 8 0x03 .inc_BC ∧ Reads 8 0x04 .inc_B ∧
    Reads 8 0x05 .dec_B ∧ Reads 8 0x07 .rlca ∧ Reads 8 0x08 .ex_AF_AF ∧ Reads 8 0x09 .add_HL_BC ∧
    Reads 8 0x0A .ld_A_atBC ∧ Reads 8 0x0B .dec_BC ∧ Reads 8 0x0C .inc_C ∧ Reads 8 0x0D .dec_C ∧
    Reads 8 0x0F .rrca ∧ Reads 8 0x12 .ld_atDE_A ∧ Reads 8 0x13 .inc_DE ∧ Reads 8 0x14 .inc_D :=
  ⟨rfl, rfl, rfl, rfl, rfl, rfl, rfl, rfl, rfl, rfl, rfl, rfl, rfl, rfl, rfl, rfl⟩

theorem test_decode_main_1_1 :
    Reads 8 0x15 .dec_D ∧ Reads 8 0x17 .rla ∧ Reads 8 0x19 .add_HL_DE ∧ Reads 8 0x1A .ld_A_atDE ∧
    Reads 8 0x1B .dec_DE ∧ Reads 8 0x1C .inc_E ∧ Reads 8 0x1D .dec_E ∧ Reads 8 0x1F .rra ∧
    Reads 8 0x23 .inc_HL ∧ Reads 8 0x24 .inc_H ∧ Reads 8 0x25 .dec_H ∧ Reads 8 0x27 .daa ∧
    Reads 8 0x29 .add_HL_HL ∧ Reads 8 0x2B .dec_HL ∧ Reads 8 0x2C .inc_L ∧ Reads 8 0x2D .dec_L :=
  ⟨rfl, rfl, rfl, rfl, rfl, rfl, rfl, rfl, rfl, rfl, rfl, rfl, rfl, rfl, rfl, rfl⟩

theorem test_decode_main_1_2 :
    Reads 8 0x2F .cpl ∧ Reads 8 0x33 .inc_SP ∧ Reads 8 0x34 .inc_atHL ∧ Reads 8 0x35 .dec_atHL ∧
    Reads 8 0x37 .scf ∧ Reads 8 0x39 .add_HL_SP ∧ Reads 8 0x3B .dec_SP ∧ Reads 8 0x3C .inc_A ∧
    Reads 8 0x3D .dec_A ∧ Reads 8 0x3F .ccf ∧ Reads 8 0x40 .ld_B_B ∧ Reads 8 0x41 .ld_B_C ∧
    Reads 8 0x42 .ld_B_D ∧ Reads 8 0x43 .ld_B_E ∧ Reads 8 0x44 .ld_B_H ∧ Reads 8 0x45 .ld_B_L :=
  ⟨rfl, rfl, rfl, rfl, rfl, rfl, rfl, rfl, rfl, rfl, rfl, rfl, rfl, rfl, rfl, rfl⟩

theorem test_decode_main_1_3 :
    Reads 8 0x46 .ld_B_atHL ∧ Reads 8 0x47 .ld_B_A ∧ Reads 8 0x48 .ld_C_B ∧ Reads 8 0x49 .ld_C_C ∧
    Reads 8 0x4A .ld_C_D ∧ Reads 8 0x4B .ld_C_E ∧ Reads 8 0x4C .ld_C_H ∧ Reads 8 0x4D .ld_C_L ∧
    Reads 8 0x4E .ld_C_atHL ∧ Reads 8 0x4F .ld_C_A ∧ Reads 8 0x50 .ld_D_B ∧ Reads 8 0x51 .ld_D_C ∧
    Reads 8 0x52 .ld_D_D ∧ Reads 8 0x53 .ld_D_E ∧ Reads 8 0x54 .ld_D_H ∧ Reads 8 0x55 .ld_D_L :=
  ⟨rfl, rfl, rfl, rfl, rfl, rfl, rfl, rfl, rfl, rfl, rfl, rfl, rfl, rfl, rfl, rfl⟩

theorem test_decode_main_1_4 :
    Reads 8 0x56 .ld_D_atHL ∧ Reads 8 0x57 .ld_D_A ∧ Reads 8 0x58 .ld_E_B ∧ Reads 8 0x59 .ld_E_C ∧
    Reads 8 0x5A .ld_E_D ∧ Reads 8 0x5B .ld_E_E ∧ Reads 8 0x5C .ld_E_H ∧ Reads 8 0x5D .ld_E_L ∧
    Reads 8 0x5E .ld_E_atHL ∧ Reads 8 0x5F .ld_E_A ∧ Reads 8 0x60 .ld_H_B ∧ Reads 8 0x61 .ld_H_C ∧
    Reads 8 0x62 .ld_H_D ∧ Reads 8 0x63 .ld_H_E ∧ Reads 8 0x64 .ld_H_H ∧ Reads 8 0x65 .ld_H_L :=
  ⟨rfl, rfl, rfl, rfl, rfl, rfl, rfl, rfl, rfl, rfl, rfl, rfl, rfl, rfl, rfl, rfl⟩

theorem test_decode_main_1_5 :
    Reads 8 0x66 .ld_H_atHL ∧ Reads 8 0x67 .ld_H_A ∧ Reads 8 0x68 .ld_L_B ∧ Reads 8 0x69 .ld_L_C ∧
    Reads 8 0x6A .ld_L_D ∧ Reads 8 0x6B .ld_L_E ∧ Reads 8 0x6C .ld_L_H ∧ Reads 8 0x6D .ld_L_L ∧
    Reads 8 0x6E .ld_L_atHL ∧ Reads 8 0x6F .ld_L_A ∧ Reads 8 0x70 .ld_atHL_B ∧ Reads 8 0x71 .ld_atHL_C ∧
    Reads 8 0x72 .ld_atHL_D ∧ Reads 8 0x73 .ld_atHL_E ∧ Reads 8 0x74 .ld_atHL_H ∧ Reads 8 0x75 .ld_atHL_L :=
  ⟨rfl, rfl, rfl, rfl, rfl, rfl, rfl, rfl, rfl, rfl, rfl, rfl, rfl, rfl, rfl, rfl⟩

theorem test_decode_main_1_6 :
    Reads 8 0x76 .halt ∧ Reads 8 0x77 .ld_atHL_A ∧ Reads 8 0x78 .ld_A_B ∧ Reads 8 0x79 .ld_A_C ∧
    Reads 8 0x7A .ld_A_D ∧ Reads 8 0x7B .ld_A_E ∧ Reads 8 0x7C .ld_A_H ∧ Reads 8 0x7D .ld_A_L ∧
    Reads 8 0x7E .ld_A_atHL ∧ Reads 8 0x7F .ld_A_A ∧ Reads 8 0x80 .add_A_B ∧ Reads 8 0x81 .add_A_C ∧
    Reads 8 0x82 .add_A_D ∧ Reads 8 0x83 .add_A_E ∧ Reads 8 0x84 .add_A_H ∧ Reads 8 0x85 .add_A_L :=
  ⟨rfl, rfl, rfl, rfl, rfl, rfl, rfl, rfl, rfl, rfl, rfl, rfl, rfl, rfl, rfl, rfl⟩

theorem test_decode_main_1_7 :
    Reads 8 0x86 .add_A_atHL ∧ Reads 8 0x87 .add_A_A ∧ Reads 8 0x88 .adc_A_B ∧ Reads 8 0x89 .adc_A_C ∧
    Reads 8 0x8A .adc_A_D ∧ Reads 8 0x8B .adc_A_E ∧ Reads 8 0x8C .adc_A_H ∧ Reads 8 0x8D .adc_A_L ∧
    Reads 8 0x8E .adc_A_atHL ∧ Reads 8 0x8F .adc_A_A ∧ Reads 8 0x90 .sub_B ∧ Reads 8 0x91 .sub_C ∧
    Reads 8 0x92 .sub_D ∧ Reads 8 0x93 .sub_E ∧ Reads 8 0x94 .sub_H ∧ Reads 8 0x95 .sub_L :=
  ⟨rfl, rfl, rfl, rfl, rfl, rfl, rfl, rfl, rfl, rfl, rfl, rfl, rfl, rfl, rfl, rfl⟩

theorem test_decode_main_1_8 :
    Reads 8 0x96 .sub_atHL ∧ Reads 8 0x97 .sub_A ∧ Reads 8 0x98 .sbc_A_B ∧ Reads 8 0x99 .sbc_A_C ∧
    Reads 8 0x9A .sbc_A_D ∧ Reads 8 0x9B .sbc_A_E ∧ Reads 8 0x9C .sbc_A_H ∧ Reads 8 0x9D .sbc_A_L ∧
    Reads 8 0x9E .sbc_A_atHL ∧ Reads 8 0x9F .sbc_A_A ∧ Reads 8 0xA0 .and_B ∧ Reads 8 0xA1 .and_C ∧
    Reads 8 0xA2 .and_D ∧ Reads 8 0xA3 .and_E ∧ Reads 8 0xA4 .and_H ∧ Reads 8 0xA5 .and_L :=
  ⟨rfl, rfl, rfl, rfl, rfl, rfl, rfl, rfl, rfl, rfl, rfl, rfl, rfl, rfl, rfl, rfl⟩

theorem test_decode_main_1_9 :
    Reads 8 0xA6 .and_atHL ∧ Reads 8 0xA7 .and_A ∧ Reads 8 0xA8 .xor_B ∧ Reads 8 0xA9 .xor_C ∧
    Reads 8 0xAA .xor_D ∧ Reads 8 0xAB .xor_E ∧ Reads 8 0xAC .xor_H ∧ Reads 8 0xAD .xor_L ∧
    Reads 8 0xAE .xor_atHL ∧ Reads 8 0xAF .xor_A ∧ Reads 8 0xB0 .or_B ∧ Reads 8 0xB1 .or_C ∧
    Reads 8 0xB2 .or_D ∧ Reads 8 0xB3 .or_E ∧ Reads 8 0xB4 .or_H ∧ Reads 8 0xB5 .or_L :=
  ⟨rfl, rfl, rfl, rfl, rfl, rfl, rfl, rfl, rfl, rfl, rfl, rfl, rfl, rfl, rfl, rfl⟩

theorem test_decode_main_1_10 :
    Reads 8 0xB6 .or_atHL ∧ Reads 8 0xB7 .or_A ∧ Reads 8 0xB8 .cp_B ∧ Reads 8 0xB9 .cp_C ∧
    Reads 8 0xBA .cp_D ∧ Reads 8 0xBB .cp_E ∧ Reads 8 0xBC .cp_H ∧ Reads 8 0xBD .cp_L ∧
    Reads 8 0xBE .cp_atHL ∧ Reads 8 0xBF .cp_A ∧ Reads 8 0xC0 .ret_NZ ∧ Reads 8 0xC1 .pop_BC ∧
    Reads 8 0xC5 .push_BC ∧ Reads 8 0xC7 .rst_00 ∧ Reads 8 0xC8 .ret_Z ∧ Reads 8 0xC9 .ret :=
  ⟨rfl, rfl, rfl, rfl, rfl, rfl, rfl, rfl, rfl, rfl, rfl, rfl, rfl, rfl, rfl, rfl⟩

theorem test_decode_main_1_11 :
    Reads 8 0xCF .rst_08 ∧ Reads 8 0xD0 .ret_NC ∧ Reads 8 0xD1 .pop_DE ∧ Reads 8 0xD5 .push_DE ∧
    Reads 8 0xD7 .rst_10 ∧ Reads 8 0xD8 .ret_C ∧ Reads 8 0xD9 .exx ∧ Reads 8 0xDD .prefixIX ∧
    Reads 8 0xDF .rst_18 ∧ Reads 8 0xE0 .ret_PO ∧ Reads 8 0xE1 .pop_HL ∧ Reads 8 0xE3 .ex_atSP_HL ∧
    Reads 8 0xE5 .push_HL ∧ Reads 8 0xE7 .rst_20 ∧ Reads 8 0xE8 .ret_PE ∧ Reads 8 0xE9 .jp_atHL :=
  ⟨rfl, rfl, rfl, rfl, rfl, rfl, rfl, rfl, rfl, rfl, rfl, rfl, rfl, rfl, rfl, rfl⟩

theorem test_decode_main_1_12 :
    Reads 8 0xEB .ex_DE_HL ∧ Reads 8 0xEF .rst_28 ∧ Reads 8 0xF0 .ret_P ∧ Reads 8 0xF1 .pop_AF ∧
    Reads 8 0xF3 .di ∧ Reads 8 0xF5 .push_AF ∧ Reads 8 0xF7 .rst_30 ∧ Reads 8 0xF8 .ret_M ∧
    Reads 8 0xF9 .ld_SP_HL ∧ Reads 8 0xFB .ei ∧ Reads 8 0xFD .prefixIY ∧ Reads 8 0xFF .rst_38 :=
  ⟨rfl, rfl, rfl, rfl, rfl, rfl, rfl, rfl, rfl, rfl, rfl, rfl⟩

theorem test_decode_main_3_0 :
    Reads 24 0x013412 (.ld_BC_nn 0x1234) ∧ Reads 24 0x113412 (.ld_DE_nn 0x1234) ∧
    Reads 24 0x213412 (.ld_HL_nn 0x1234) ∧ Reads 24 0x223412 (.ld_atNn_HL 0x1234) ∧
    Reads 24 0x2A3412 (.ld_HL_atNn 0x1234) ∧ Reads 24 0x313412 (.ld_SP_nn 0x1234) ∧
    Reads 24 0x323412 (.ld_atNn_A 0x1234) ∧ Reads 24 0x3A3412 (.ld_A_atNn 0x1234) ∧
    Reads 24 0xC23412 (.jp_NZ_nn 0x1234) ∧ Reads 24 0xC33412 (.jp_nn 0x1234) ∧
    Reads 24 0xC43412 (.call_NZ_nn 0x1234) ∧ Reads 24 0xCA3412 (.jp_Z_nn 0x1234) ∧
    Reads 24 0xCC3412 (.call_Z_nn 0x1234) ∧ Reads 24 0xCD3412 (.call_nn 0x1234) ∧
    Reads 24 0xD23412 (.jp_NC_nn 0x1234) ∧ Reads 24 0xD43412 (.call_NC_nn 0x1234) :=
  ⟨rfl, rfl, rfl, rfl, rfl, rfl, rfl, rfl, rfl, rfl, rfl, rfl, rfl, rfl, rfl, rfl⟩

theorem test_decode_main_3_1 :
    Reads 24 0xDA3412 (.jp_C_nn 0x1234) ∧ Reads 24 0xDC3412 (.call_C_nn 0x1234) ∧
    Reads 24 0xE23412 (.jp_PO_nn 0x1234) ∧ Reads 24 0xE43412 (.call_PO_nn 0x1234) ∧
    Reads 24 0xEA3412 (.jp_PE_nn 0x1234) ∧ Reads 24 0xEC3412 (.call_PE_nn 0x1234) ∧
    Reads 24 0xF23412 (.jp_P_nn 0x1234) ∧ Reads 24 0xF43412 (.call_P_nn 0x1234) ∧
    Reads 24 0xFA3412 (.jp_M_nn 0x1234) ∧ Reads 24 0xFC3412 (.call_M_nn 0x1234) :=
  ⟨rfl, rfl, rfl, rfl, rfl, rfl, rfl, rfl, rfl, rfl⟩

theorem test_decode_main_2_0 :
    Reads 16 0x0634 (.ld_B_n 0x34) ∧ Reads 16 0x0E34 (.ld_C_n 0x34) ∧ Reads 16 0x10FE (.djnz_e 0xFE) ∧
    Reads 16 0x1634 (.ld_D_n 0x34) ∧ Reads 16 0x18FE (.jr_e 0xFE) ∧ Reads 16 0x1E34 (.ld_E_n 0x34) ∧
    Reads 16 0x20FE (.jr_NZ_e 0xFE) ∧ Reads 16 0x2634 (.ld_H_n 0x34) ∧ Reads 16 0x28FE (.jr_Z_e 0xFE) ∧
    Reads 16 0x2E34 (.ld_L_n 0x34) ∧ Reads 16 0x30FE (.jr_NC_e 0xFE) ∧ Reads 16 0x3634 (.ld_atHL_n 0x34) ∧
    Reads 16 0x38FE (.jr_C_e 0xFE) ∧ Reads 16 0x3E34 (.ld_A_n 0x34) ∧ Reads 16 0xC634 (.add_A_n 0x34) ∧
    Reads 16 0xCE34 (.adc_A_n 0x34) :=
  ⟨rfl, rfl, rfl, rfl, rfl, rfl, rfl, rfl, rfl, rfl, rfl, rfl, rfl, rfl, rfl, rfl⟩

theorem test_decode_main_2_1 :
    Reads 16 0xD334 (.out_atN_A 0x34) ∧ Reads 16 0xD634 (.sub_n 0x34) ∧ Reads 16 0xDB34 (.in_A_atN 0x34) ∧
    Reads 16 0xDE34 (.sbc_A_n 0x34) ∧ Reads 16 0xE634 (.and_n 0x34) ∧ Reads 16 0xEE34 (.xor_n 0x34) ∧
    Reads 16 0xF634 (.or_n 0x34) ∧ Reads 16 0xFE34 (.cp_n 0x34) :=
  ⟨rfl, rfl, rfl, rfl, rfl, rfl, rfl, rfl⟩

theorem test_decode_CB_2_0 :
    Reads 16 0xCB00 .rlc_B ∧ Reads 16 0xCB01 .rlc_C ∧ Reads 16 0xCB02 .rlc_D ∧ Reads 16 0xCB03 .rlc_E ∧
    Reads 16 0xCB04 .rlc_H ∧ Reads 16 0xCB05 .rlc_L ∧ Reads 16 0xCB06 .rlc_atHL ∧ Reads 16 0xCB07 .rlc_A ∧
    Reads 16 0xCB08 .rrc_B ∧ Reads 16 0xCB09 .rrc_C ∧ Reads 16 0xCB0A .rrc_D ∧ Reads 16 0xCB0B .rrc_E ∧
    Reads 16 0xCB0C .rrc_H ∧ Reads 16 0xCB0D .rrc_L ∧ Reads 16 0xCB0E .rrc_atHL ∧ Reads 16 0xCB0F .rrc_A :=
  ⟨rfl, rfl, rfl, rfl, rfl, rfl, rfl, rfl, rfl, rfl, rfl, rfl, rfl, rfl, rfl, rfl⟩

theorem test_decode_CB_2_1 :
    Reads 16 0xCB10 .rl_B ∧ Reads 16 0xCB11 .rl_C ∧ Reads 16 0xCB12 .rl_D ∧ Reads 16 0xCB13 .rl_E ∧
    Reads 16 0xCB14 .rl_H ∧ Reads 16 0xCB15 .rl_L ∧ Reads 16 0xCB16 .rl_atHL ∧ Reads 16 0xCB17 .rl_A ∧
    Reads 16 0xCB18 .rr_B ∧ Reads 16 0xCB19 .rr_C ∧ Reads 16 0xCB1A .rr_D ∧ Reads 16 0xCB1B .rr_E ∧
    Reads 16 0xCB1C .rr_H ∧ Reads 16 0xCB1D .rr_L ∧ Reads 16 0xCB1E .rr_atHL ∧ Reads 16 0xCB1F .rr_A :=
  ⟨rfl, rfl, rfl, rfl, rfl, rfl, rfl, rfl, rfl, rfl, rfl, rfl, rfl, rfl, rfl, rfl⟩

theorem test_decode_CB_2_2 :
    Reads 16 0xCB20 .sla_B ∧ Reads 16 0xCB21 .sla_C ∧ Reads 16 0xCB22 .sla_D ∧ Reads 16 0xCB23 .sla_E ∧
    Reads 16 0xCB24 .sla_H ∧ Reads 16 0xCB25 .sla_L ∧ Reads 16 0xCB26 .sla_atHL ∧ Reads 16 0xCB27 .sla_A ∧
    Reads 16 0xCB28 .sra_B ∧ Reads 16 0xCB29 .sra_C ∧ Reads 16 0xCB2A .sra_D ∧ Reads 16 0xCB2B .sra_E ∧
    Reads 16 0xCB2C .sra_H ∧ Reads 16 0xCB2D .sra_L ∧ Reads 16 0xCB2E .sra_atHL ∧ Reads 16 0xCB2F .sra_A :=
  ⟨rfl, rfl, rfl, rfl, rfl, rfl, rfl, rfl, rfl, rfl, rfl, rfl, rfl, rfl, rfl, rfl⟩

theorem test_decode_CB_2_3 :
    Reads 16 0xCB30 .sll_B ∧ Reads 16 0xCB31 .sll_C ∧ Reads 16 0xCB32 .sll_D ∧ Reads 16 0xCB33 .sll_E ∧
    Reads 16 0xCB34 .sll_H ∧ Reads 16 0xCB35 .sll_L ∧ Reads 16 0xCB36 .sll_atHL ∧ Reads 16 0xCB37 .sll_A ∧
    Reads 16 0xCB38 .srl_B ∧ Reads 16 0xCB39 .srl_C ∧ Reads 16 0xCB3A .srl_D ∧ Reads 16 0xCB3B .srl_E ∧
    Reads 16 0xCB3C .srl_H ∧ Reads 16 0xCB3D .srl_L ∧ Reads 16 0xCB3E .srl_atHL ∧ Reads 16 0xCB3F .srl_A :=
  ⟨rfl, rfl, rfl, rfl, rfl, rfl, rfl, rfl, rfl, rfl, rfl, rfl, rfl, rfl, rfl, rfl⟩

theorem test_decode_CB_2_4 :
    Reads 16 0xCB40 .bit_0_B ∧ Reads 16 0xCB41 .bit_0_C ∧ Reads 16 0xCB42 .bit_0_D ∧
    Reads 16 0xCB43 .bit_0_E ∧ Reads 16 0xCB44 .bit_0_H ∧ Reads 16 0xCB45 .bit_0_L ∧
    Reads 16 0xCB46 .bit_0_atHL ∧ Reads 16 0xCB47 .bit_0_A ∧ Reads 16 0xCB48 .bit_1_B ∧
    Reads 16 0xCB49 .bit_1_C ∧ Reads 16 0xCB4A .bit_1_D ∧ Reads 16 0xCB4B .bit_1_E ∧
    Reads 16 0xCB4C .bit_1_H ∧ Reads 16 0xCB4D .bit_1_L ∧ Reads 16 0xCB4E .bit_1_atHL ∧
    Reads 16 0xCB4F .bit_1_A :=
  ⟨rfl, rfl, rfl, rfl, rfl, rfl, rfl, rfl, rfl, rfl, rfl, rfl, rfl, rfl, rfl, rfl⟩

theorem test_decode_CB_2_5 :
    Reads 16 0xCB50 .bit_2_B ∧ Reads 16 0xCB51 .bit_2_C ∧ Reads 16 0xCB52 .bit_2_D ∧
    Reads 16 0xCB53 .bit_2_E ∧ Reads 16 0xCB54 .bit_2_H ∧ Reads 16 0xCB55 .bit_2_L ∧
    Reads 16 0xCB56 .bit_2_atHL ∧ Reads 16 0xCB57 .bit_2_A ∧ Reads 16 0xCB58 .bit_3_B ∧
    Reads 16 0xCB59 .bit_3_C ∧ Reads 16 0xCB5A .bit_3_D ∧ Reads 16 0xCB5B .bit_3_E ∧
    Reads 16 0xCB5C .bit_3_H ∧ Reads 16 0xCB5D .bit_3_L ∧ Reads 16 0xCB5E .bit_3_atHL ∧
    Reads 16 0xCB5F .bit_3_A :=
  ⟨rfl, rfl, rfl, rfl, rfl, rfl, rfl, rfl, rfl, rfl, rfl, rfl, rfl, rfl, rfl, rfl⟩

theorem test_decode_CB_2_6 :
    Reads 16 0xCB60 .bit_4_B ∧ Reads 16 0xCB61 .bit_4_C ∧ Reads 16 0xCB62 .bit_4_D ∧
    Reads 16 0xCB63 .bit_4_E ∧ Reads 16 0xCB64 .bit_4_H ∧ Reads 16 0xCB65 .bit_4_L ∧
    Reads 16 0xCB66 .bit_4_atHL ∧ Reads 16 0xCB67 .bit_4_A ∧ Reads 16 0xCB68 .bit_5_B ∧
    Reads 16 0xCB69 .bit_5_C ∧ Reads 16 0xCB6A .bit_5_D ∧ Reads 16 0xCB6B .bit_5_E ∧
    Reads 16 0xCB6C .bit_5_H ∧ Reads 16 0xCB6D .bit_5_L ∧ Reads 16 0xCB6E .bit_5_atHL ∧
    Reads 16 0xCB6F .bit_5_A :=
  ⟨rfl, rfl, rfl, rfl, rfl, rfl, rfl, rfl, rfl, rfl, rfl, rfl, rfl, rfl, rfl, rfl⟩

theorem test_decode_CB_2_7 :
    Reads 16 0xCB70 .bit_6_B ∧ Reads 16 0xCB71 .bit_6_C ∧ Reads 16 0xCB72 .bit_6_D ∧
    Reads 16 0xCB73 .bit_6_E ∧ Reads 16 0xCB74 .bit_6_H ∧ Reads 16 0xCB75 .bit_6_L ∧
    Reads 16 0xCB76 .bit_6_atHL ∧ Reads 16 0xCB77 .bit_6_A ∧ Reads 16 0xCB78 .bit_7_B ∧
    Reads 16 0xCB79 .bit_7_C ∧ Reads 16 0xCB7A .bit_7_D ∧ Reads 16 0xCB7B .bit_7_E ∧
    Reads 16 0xCB7C .bit_7_H ∧ Reads 16 0xCB7D .bit_7_L ∧ Reads 16 0xCB7E .bit_7_atHL ∧
    Reads 16 0xCB7F .bit_7_A :=
  ⟨rfl, rfl, rfl, rfl, rfl, rfl, rfl, rfl, rfl, rfl, rfl, rfl, rfl, rfl, rfl, rfl⟩

theorem test_decode_CB_2_8 :
    Reads 16 0xCB80 .res_0_B ∧ Reads 16 0xCB81 .res_0_C ∧ Reads 16 0xCB82 .res_0_D ∧
    Reads 16 0xCB83 .res_0_E ∧ Reads 16 0xCB84 .res_0_H ∧ Reads 16 0xCB85 .res_0_L ∧
    Reads 16 0xCB86 .res_0_atHL ∧ Reads 16 0xCB87 .res_0_A ∧ Reads 16 0xCB88 .res_1_B ∧
    Reads 16 0xCB89 .res_1_C ∧ Reads 16 0xCB8A .res_1_D ∧ Reads 16 0xCB8B .res_1_E ∧
    Reads 16 0xCB8C .res_1_H ∧ Reads 16 0xCB8D .res_1_L ∧ Reads 16 0xCB8E .res_1_atHL ∧
    Reads 16 0xCB8F .res_1_A :=
  ⟨rfl, rfl, rfl, rfl, rfl, rfl, rfl, rfl, rfl, rfl, rfl, rfl, rfl, rfl, rfl, rfl⟩

theorem test_decode_CB_2_9 :
    Reads 16 0xCB90 .res_2_B ∧ Reads 16 0xCB91 .res_2_C ∧ Reads 16 0xCB92 .res_2_D ∧
    Reads 16 0xCB93 .res_2_E ∧ Reads 16 0xCB94 .res_2_H ∧ Reads 16 0xCB95 .res_2_L ∧
    Reads 16 0xCB96 .res_2_atHL ∧ Reads 16 0xCB97 .res_2_A ∧ Reads 16 0xCB98 .res_3_B ∧
    Reads 16 0xCB99 .res_3_C ∧ Reads 16 0xCB9A .res_3_D ∧ Reads 16 0xCB9B .res_3_E ∧
    Reads 16 0xCB9C .res_3_H ∧ Reads 16 0xCB9D .res_3_L ∧ Reads 16 0xCB9E .res_3_atHL ∧
    Reads 16 0xCB9F .res_3_A :=
  ⟨rfl, rfl, rfl, rfl, rfl, rfl, rfl, rfl, rfl, rfl, rfl, rfl, rfl, rfl, rfl, rfl⟩

theorem test_decode_CB_2_10 :
    Reads 16 0xCBA0 .res_4_B ∧ Reads 16 0xCBA1 .res_4_C ∧ Reads 16 0xCBA2 .res_4_D ∧
    Reads 16 0xCBA3 .res_4_E ∧ Reads 16 0xCBA4 .res_4_H ∧ Reads 16 0xCBA5 .res_4_L ∧
    Reads 16 0xCBA6 .res_4_atHL ∧ Reads 16 0xCBA7 .res_4_A ∧ Reads 16 0xCBA8 .res_5_B ∧
    Reads 16 0xCBA9 .res_5_C ∧ Reads 16 0xCBAA .res_5_D ∧ Reads 16 0xCBAB .res_5_E ∧
    Reads 16 0xCBAC .res_5_H ∧ Reads 16 0xCBAD .res_5_L ∧ Reads 16 0xCBAE .res_5_atHL ∧
    Reads 16 0xCBAF .res_5_A :=
  ⟨rfl, rfl, rfl, rfl, rfl, rfl, rfl, rfl, rfl, rfl, rfl, rfl, rfl, rfl, rfl, rfl⟩

theorem test_decode_CB_2_11 :
    Reads 16 0xCBB0 .res_6_B ∧ Reads 16 0xCBB1 .res_6_C ∧ Reads 16 0xCBB2 .res_6_D ∧
    Reads 16 0xCBB3 .res_6_E ∧ Reads 16 0xCBB4 .res_6_H ∧ Reads 16 0xCBB5 .res_6_L ∧
    Reads 16 0xCBB6 .res_6_atHL ∧ Reads 16 0xCBB7 .res_6_A ∧ Reads 16 0xCBB8 .res_7_B ∧
    Reads 16 0xCBB9 .res_7_C ∧ Reads 16 0xCBBA .res_7_D ∧ Reads 16 0xCBBB .res_7_E ∧
    Reads 16 0xCBBC .res_7_H ∧ Reads 16 0xCBBD .res_7_L ∧ Reads 16 0xCBBE .res_7_atHL ∧
    Reads 16 0xCBBF .res_7_A :=
  ⟨rfl, rfl, rfl, rfl, rfl, rfl, rfl, rfl, rfl, rfl, rfl, rfl, rfl, rfl, rfl, rfl⟩

theorem test_decode_CB_2_12 :
    Reads 16 0xCBC0 .set_0_B ∧ Reads 16 0xCBC1 .set_0_C ∧ Reads 16 0xCBC2 .set_0_D ∧
    Reads 16 0xCBC3 .set_0_E ∧ Reads 16 0xCBC4 .set_0_H ∧ Reads 16 0xCBC5 .set_0_L ∧
    Reads 16 0xCBC6 .set_0_atHL ∧ Reads 16 0xCBC7 .set_0_A ∧ Reads 16 0xCBC8 .set_1_B ∧
    Reads 16 0xCBC9 .set_1_C ∧ Reads 16 0xCBCA .set_1_D ∧ Reads 16 0xCBCB .set_1_E ∧
    Reads 16 0xCBCC .set_1_H ∧ Reads 16 0xCBCD .set_1_L ∧ Reads 16 0xCBCE .set_1_atHL ∧
    Reads 16 0xCBCF .set_1_A :=
  ⟨rfl, rfl, rfl, rfl, rfl, rfl, rfl, rfl, rfl, rfl, rfl, rfl, rfl, rfl, rfl, rfl⟩

theorem test_decode_CB_2_13 :
    Reads 16 0xCBD0 .set_2_B ∧ Reads 16 0xCBD1 .set_2_C ∧ Reads 16 0xCBD2 .set_2_D ∧
    Reads 16 0xCBD3 .set_2_E ∧ Reads 16 0xCBD4 .set_2_H ∧ Reads 16 0xCBD5 .set_2_L ∧
    Reads 16 0xCBD6 .set_2_atHL ∧ Reads 16 0xCBD7 .set_2_A ∧ Reads 16 0xCBD8 .set_3_B ∧
    Reads 16 0xCBD9 .set_3_C ∧ Reads 16 0xCBDA .set_3_D ∧ Reads 16 0xCBDB .set_3_E ∧
    Reads 16 0xCBDC .set_3_H ∧ Reads 16 0xCBDD .set_3_L ∧ Reads 16 0xCBDE .set_3_atHL ∧
    Reads 16 0xCBDF .set_3_A :=
  ⟨rfl, rfl, rfl, rfl, rfl, rfl, rfl, rfl, rfl, rfl, rfl, rfl, rfl, rfl, rfl, rfl⟩

theorem test_decode_CB_2_14 :
    Reads 16 0xCBE0 .set_4_B ∧ Reads 16 0xCBE1 .set_4_C ∧ Reads 16 0xCBE2 .set_4_D ∧
    Reads 16 0xCBE3 .set_4_E ∧ Reads 16 0xCBE4 .set_4_H ∧ Reads 16 0xCBE5 .set_4_L ∧
    Reads 16 0xCBE6 .set_4_atHL ∧ Reads 16 0xCBE7 .set_4_A ∧ Reads 16 0xCBE8 .set_5_B ∧
    Reads 16 0xCBE9 .set_5_C ∧ Reads 16 0xCBEA .set_5_D ∧ Reads 16 0xCBEB .set_5_E ∧
    Reads 16 0xCBEC .set_5_H ∧ Reads 16 0xCBED .set_5_L ∧ Reads 16 0xCBEE .set_5_atHL ∧
    Reads 16 0xCBEF .set_5_A :=
  ⟨rfl, rfl, rfl, rfl, rfl, rfl, rfl, rfl, rfl, rfl, rfl, rfl, rfl, rfl, rfl, rfl⟩

theorem test_decode_CB_2_15 :
    Reads 16 0xCBF0 .set_6_B ∧ Reads 16 0xCBF1 .set_6_C ∧ Reads 16 0xCBF2 .set_6_D ∧
    Reads 16 0xCBF3 .set_6_E ∧ Reads 16 0xCBF4 .set_6_H ∧ Reads 16 0xCBF5 .set_6_L ∧
    Reads 16 0xCBF6 .set_6_atHL ∧ Reads 16 0xCBF7 .set_6_A ∧ Reads 16 0xCBF8 .set_7_B ∧
    Reads 16 0xCBF9 .set_7_C ∧ Reads 16 0xCBFA .set_7_D ∧ Reads 16 0xCBFB .set_7_E ∧
    Reads 16 0xCBFC .set_7_H ∧ Reads 16 0xCBFD .set_7_L ∧ Reads 16 0xCBFE .set_7_atHL ∧
    Reads 16 0xCBFF .set_7_A :=
  ⟨rfl, rfl, rfl, rfl, rfl, rfl, rfl, rfl, rfl, rfl, rfl, rfl, rfl, rfl, rfl, rfl⟩

theorem test_decode_ED_2_0 :
    Reads 16 0xED00 (.noni 0x00) ∧ Reads 16 0xED40 .in_B_atC ∧ Reads 16 0xED41 .out_atC_B ∧
    Reads 16 0xED42 .sbc_HL_BC ∧ Reads 16 0xED44 (.neg 0) ∧ Reads 16 0xED45 (.retn 0) ∧
    Reads 16 0xED46 (.im_0 0) ∧ Reads 16 0xED47 .ld_I_A ∧ Reads 16 0xED48 .in_C_atC ∧
    Reads 16 0xED49 .out_atC_C ∧ Reads 16 0xED4A .adc_HL_BC ∧ Reads 16 0xED4D .reti ∧
    Reads 16 0xED4F .ld_R_A ∧ Reads 16 0xED50 .in_D_atC ∧ Reads 16 0xED51 .out_atC_D ∧
    Reads 16 0xED52 .sbc_HL_DE :=
  ⟨rfl, rfl, rfl, rfl, rfl, rfl, rfl, rfl, rfl, rfl, rfl, rfl, rfl, rfl, rfl, rfl⟩

theorem test_decode_ED_2_1 :
    Reads 16 0xED56 (.im_1 2) ∧ Reads 16 0xED57 .ld_A_I ∧ Reads 16 0xED58 .in_E_atC ∧
    Reads 16 0xED59 .out_atC_E ∧ Reads 16 0xED5A .adc_HL_DE ∧ Reads 16 0xED5E (.im_2 3) ∧
    Reads 16 0xED5F .ld_A_R ∧ Reads 16 0xED60 .in_H_atC ∧ Reads 16 0xED61 .out_atC_H ∧
    Reads 16 0xED62 .sbc_HL_HL ∧ Reads 16 0xED67 .rrd ∧ Reads 16 0xED68 .in_L_atC ∧
    Reads 16 0xED69 .out_atC_L ∧ Reads 16 0xED6A .adc_HL_HL ∧ Reads 16 0xED6F .rld ∧ Reads 16 0xED70 .in_F_atC :=
  ⟨rfl, rfl, rfl, rfl, rfl, rfl, rfl, rfl, rfl, rfl, rfl, rfl, rfl, rfl, rfl, rfl⟩

theorem test_decode_ED_2_2 :
    Reads 16 0xED71 .out_atC_0 ∧ Reads 16 0xED72 .sbc_HL_SP ∧ Reads 16 0xED78 .in_A_atC ∧
    Reads 16 0xED79 .out_atC_A ∧ Reads 16 0xED7A .adc_HL_SP ∧ Reads 16 0xEDA0 .ldi ∧ Reads 16 0xEDA1 .cpi ∧
    Reads 16 0xEDA2 .ini ∧ Reads 16 0xEDA3 .outi ∧ Reads 16 0xEDA8 .ldd ∧ Reads 16 0xEDA9 .cpd ∧
    Reads 16 0xEDAA .ind ∧ Reads 16 0xEDAB .outd ∧ Reads 16 0xEDB0 .ldir ∧ Reads 16 0xEDB1 .cpir ∧
    Reads 16 0xEDB2 .inir :=
  ⟨rfl, rfl, rfl, rfl, rfl, rfl, rfl, rfl, rfl, rfl, rfl, rfl, rfl, rfl, rfl, rfl⟩

theorem test_decode_ED_2_3 :
    Reads 16 0xEDB3 .otir ∧ Reads 16 0xEDB8 .lddr ∧ Reads 16 0xEDB9 .cpdr ∧ Reads 16 0xEDBA .indr ∧
    Reads 16 0xEDBB .otdr :=
  ⟨rfl, rfl, rfl, rfl, rfl⟩

theorem test_decode_ED_4_0 :
    Reads 32 0xED433412 (.ld_atNn_BC 0x1234) ∧ Reads 32 0xED4B3412 (.ld_BC_atNn 0x1234) ∧
    Reads 32 0xED533412 (.ld_atNn_DE 0x1234) ∧ Reads 32 0xED5B3412 (.ld_DE_atNn 0x1234) ∧
    Reads 32 0xED633412 (.ld_atNn_HL_ed 0x1234) ∧ Reads 32 0xED6B3412 (.ld_HL_atNn_ed 0x1234) ∧
    Reads 32 0xED733412 (.ld_atNn_SP 0x1234) ∧ Reads 32 0xED7B3412 (.ld_SP_atNn 0x1234) :=
  ⟨rfl, rfl, rfl, rfl, rfl, rfl, rfl, rfl⟩

theorem test_decode_DD_2_0 :
    Reads 16 0xDD09 .add_IX_BC ∧ Reads 16 0xDD19 .add_IX_DE ∧ Reads 16 0xDD23 .inc_IX ∧
    Reads 16 0xDD24 .inc_IXH ∧ Reads 16 0xDD25 .dec_IXH ∧ Reads 16 0xDD29 .add_IX_IX ∧
    Reads 16 0xDD2B .dec_IX ∧ Reads 16 0xDD2C .inc_IXL ∧ Reads 16 0xDD2D .dec_IXL ∧
    Reads 16 0xDD39 .add_IX_SP ∧ Reads 16 0xDD44 .ld_B_IXH ∧ Reads 16 0xDD45 .ld_B_IXL ∧
    Reads 16 0xDD4C .ld_C_IXH ∧ Reads 16 0xDD4D .ld_C_IXL ∧ Reads 16 0xDD54 .ld_D_IXH ∧
    Reads 16 0xDD55 .ld_D_IXL :=
  ⟨rfl, rfl, rfl, rfl, rfl, rfl, rfl, rfl, rfl, rfl, rfl, rfl, rfl, rfl, rfl, rfl⟩

theorem test_decode_DD_2_1 :
    Reads 16 0xDD5C .ld_E_IXH ∧ Reads 16 0xDD5D .ld_E_IXL ∧ Reads 16 0xDD60 .ld_IXH_B ∧
    Reads 16 0xDD61 .ld_IXH_C ∧ Reads 16 0xDD62 .ld_IXH_D ∧ Reads 16 0xDD63 .ld_IXH_E ∧
    Reads 16 0xDD64 .ld_IXH_IXH ∧ Reads 16 0xDD65 .ld_IXH_IXL ∧ Reads 16 0xDD67 .ld_IXH_A ∧
    Reads 16 0xDD68 .ld_IXL_B ∧ Reads 16 0xDD69 .ld_IXL_C ∧ Reads 16 0xDD6A .ld_IXL_D ∧
    Reads 16 0xDD6B .ld_IXL_E ∧ Reads 16 0xDD6C .ld_IXL_IXH ∧ Reads 16 0xDD6D .ld_IXL_IXL ∧
    Reads 16 0xDD6F .ld_IXL_A :=
  ⟨rfl, rfl, rfl, rfl, rfl, rfl, rfl, rfl, rfl, rfl, rfl, rfl, rfl, rfl, rfl, rfl⟩

theorem test_decode_DD_2_2 :
    Reads 16 0xDD7C .ld_A_IXH ∧ Reads 16 0xDD7D .ld_A_IXL ∧ Reads 16 0xDD84 .add_A_IXH ∧
    Reads 16 0xDD85 .add_A_IXL ∧ Reads 16 0xDD8C .adc_A_IXH ∧ Reads 16 0xDD8D .adc_A_IXL ∧
    Reads 16 0xDD94 .sub_IXH ∧ Reads 16 0xDD95 .sub_IXL ∧ Reads 16 0xDD9C .sbc_A_IXH ∧
    Reads 16 0xDD9D .sbc_A_IXL ∧ Reads 16 0xDDA4 .and_IXH ∧ Reads 16 0xDDA5 .and_IXL ∧
    Reads 16 0xDDAC .xor_IXH ∧ Reads 16 0xDDAD .xor_IXL ∧ Reads 16 0xDDB4 .or_IXH ∧ Reads 16 0xDDB5 .or_IXL :=
  ⟨rfl, rfl, rfl, rfl, rfl, rfl, rfl, rfl, rfl, rfl, rfl, rfl, rfl, rfl, rfl, rfl⟩

theorem test_decode_DD_2_3 :
    Reads 16 0xDDBC .cp_IXH ∧ Reads 16 0xDDBD .cp_IXL ∧ Reads 16 0xDDDD .prefixIX_overIX ∧
    Reads 16 0xDDE1 .pop_IX ∧ Reads 16 0xDDE3 .ex_atSP_IX ∧ Reads 16 0xDDE5 .push_IX ∧
    Reads 16 0xDDE9 .jp_atIX ∧ Reads 16 0xDDF9 .ld_SP_IX ∧ Reads 16 0xDDFD .prefixIY_overIX :=
  ⟨rfl, rfl, rfl, rfl, rfl, rfl, rfl, rfl, rfl⟩

theorem test_decode_DD_4_0 :
    Reads 32 0xDD213412 (.ld_IX_nn 0x1234) ∧ Reads 32 0xDD223412 (.ld_atNn_IX 0x1234) ∧
    Reads 32 0xDD2A3412 (.ld_IX_atNn 0x1234) ∧ Reads 32 0xDD368534 (.ld_atIXd_n 0x85 0x34) :=
  ⟨rfl, rfl, rfl, rfl⟩

theorem test_decode_DD_3_0 :
    Reads 24 0xDD2634 (.ld_IXH_n 0x34) ∧ Reads 24 0xDD2E34 (.ld_IXL_n 0x34) ∧
    Reads 24 0xDD3485 (.inc_atIXd 0x85) ∧ Reads 24 0xDD3585 (.dec_atIXd 0x85) ∧
    Reads 24 0xDD4685 (.ld_B_atIXd 0x85) ∧ Reads 24 0xDD4E85 (.ld_C_atIXd 0x85) ∧
    Reads 24 0xDD5685 (.ld_D_atIXd 0x85) ∧ Reads 24 0xDD5E85 (.ld_E_atIXd 0x85) ∧
    Reads 24 0xDD6685 (.ld_H_atIXd 0x85) ∧ Reads 24 0xDD6E85 (.ld_L_atIXd 0x85) ∧
    Reads 24 0xDD7085 (.ld_atIXd_B 0x85) ∧ Reads 24 0xDD7185 (.ld_atIXd_C 0x85) ∧
    Reads 24 0xDD7285 (.ld_atIXd_D 0x85) ∧ Reads 24 0xDD7385 (.ld_atIXd_E 0x85) ∧
    Reads 24 0xDD7485 (.ld_atIXd_H 0x85) ∧ Reads 24 0xDD7585 (.ld_atIXd_L 0x85) :=
  ⟨rfl, rfl, rfl, rfl, rfl, rfl, rfl, rfl, rfl, rfl, rfl, rfl, rfl, rfl, rfl, rfl⟩

theorem test_decode_DD_3_1 :
    Reads 24 0xDD7785 (.ld_atIXd_A 0x85) ∧ Reads 24 0xDD7E85 (.ld_A_atIXd 0x85) ∧
    Reads 24 0xDD8685 (.add_A_atIXd 0x85) ∧ Reads 24 0xDD8E85 (.adc_A_atIXd 0x85) ∧
    Reads 24 0xDD9685 (.sub_atIXd 0x85) ∧ Reads 24 0xDD9E85 (.sbc_A_atIXd 0x85) ∧
    Reads 24 0xDDA685 (.and_atIXd 0x85) ∧ Reads 24 0xDDAE85 (.xor_atIXd 0x85) ∧
    Reads 24 0xDDB685 (.or_atIXd 0x85) ∧ Reads 24 0xDDBE85 (.cp_atIXd 0x85) ∧
    Reads 24 0xDDED00 (.prefixIX_ED (.noni 0x00)) :=
  ⟨rfl, rfl, rfl, rfl, rfl, rfl, rfl, rfl, rfl, rfl, rfl⟩

theorem test_decode_FD_2_0 :
    Reads 16 0xFD09 .add_IY_BC ∧ Reads 16 0xFD19 .add_IY_DE ∧ Reads 16 0xFD23 .inc_IY ∧
    Reads 16 0xFD24 .inc_IYH ∧ Reads 16 0xFD25 .dec_IYH ∧ Reads 16 0xFD29 .add_IY_IY ∧
    Reads 16 0xFD2B .dec_IY ∧ Reads 16 0xFD2C .inc_IYL ∧ Reads 16 0xFD2D .dec_IYL ∧
    Reads 16 0xFD39 .add_IY_SP ∧ Reads 16 0xFD44 .ld_B_IYH ∧ Reads 16 0xFD45 .ld_B_IYL ∧
    Reads 16 0xFD4C .ld_C_IYH ∧ Reads 16 0xFD4D .ld_C_IYL ∧ Reads 16 0xFD54 .ld_D_IYH ∧
    Reads 16 0xFD55 .ld_D_IYL :=
  ⟨rfl, rfl, rfl, rfl, rfl, rfl, rfl, rfl, rfl, rfl, rfl, rfl, rfl, rfl, rfl, rfl⟩

theorem test_decode_FD_2_1 :
    Reads 16 0xFD5C .ld_E_IYH ∧ Reads 16 0xFD5D .ld_E_IYL ∧ Reads 16 0xFD60 .ld_IYH_B ∧
    Reads 16 0xFD61 .ld_IYH_C ∧ Reads 16 0xFD62 .ld_IYH_D ∧ Reads 16 0xFD63 .ld_IYH_E ∧
    Reads 16 0xFD64 .ld_IYH_IYH ∧ Reads 16 0xFD65 .ld_IYH_IYL ∧ Reads 16 0xFD67 .ld_IYH_A ∧
    Reads 16 0xFD68 .ld_IYL_B ∧ Reads 16 0xFD69 .ld_IYL_C ∧ Reads 16 0xFD6A .ld_IYL_D ∧
    Reads 16 0xFD6B .ld_IYL_E ∧ Reads 16 0xFD6C .ld_IYL_IYH ∧ Reads 16 0xFD6D .ld_IYL_IYL ∧
    Reads 16 0xFD6F .ld_IYL_A :=
  ⟨rfl, rfl, rfl, rfl, rfl, rfl, rfl, rfl, rfl, rfl, rfl, rfl, rfl, rfl, rfl, rfl⟩

theorem test_decode_FD_2_2 :
    Reads 16 0xFD7C .ld_A_IYH ∧ Reads 16 0xFD7D .ld_A_IYL ∧ Reads 16 0xFD84 .add_A_IYH ∧
    Reads 16 0xFD85 .add_A_IYL ∧ Reads 16 0xFD8C .adc_A_IYH ∧ Reads 16 0xFD8D .adc_A_IYL ∧
    Reads 16 0xFD94 .sub_IYH ∧ Reads 16 0xFD95 .sub_IYL ∧ Reads 16 0xFD9C .sbc_A_IYH ∧
    Reads 16 0xFD9D .sbc_A_IYL ∧ Reads 16 0xFDA4 .and_IYH ∧ Reads 16 0xFDA5 .and_IYL ∧
    Reads 16 0xFDAC .xor_IYH ∧ Reads 16 0xFDAD .xor_IYL ∧ Reads 16 0xFDB4 .or_IYH ∧ Reads 16 0xFDB5 .or_IYL :=
  ⟨rfl, rfl, rfl, rfl, rfl, rfl, rfl, rfl, rfl, rfl, rfl, rfl, rfl, rfl, rfl, rfl⟩

theorem test_decode_FD_2_3 :
    Reads 16 0xFDBC .cp_IYH ∧ Reads 16 0xFDBD .cp_IYL ∧ Reads 16 0xFDDD .prefixIX_overIY ∧
    Reads 16 0xFDE1 .pop_IY ∧ Reads 16 0xFDE3 .ex_atSP_IY ∧ Reads 16 0xFDE5 .push_IY ∧
    Reads 16 0xFDE9 .jp_atIY ∧ Reads 16 0xFDF9 .ld_SP_IY ∧ Reads 16 0xFDFD .prefixIY_overIY :=
  ⟨rfl, rfl, rfl, rfl, rfl, rfl, rfl, rfl, rfl⟩

theorem test_decode_FD_4_0 :
    Reads 32 0xFD213412 (.ld_IY_nn 0x1234) ∧ Reads 32 0xFD223412 (.ld_atNn_IY 0x1234) ∧
    Reads 32 0xFD2A3412 (.ld_IY_atNn 0x1234) ∧ Reads 32 0xFD368534 (.ld_atIYd_n 0x85 0x34) :=
  ⟨rfl, rfl, rfl, rfl⟩

theorem test_decode_FD_3_0 :
    Reads 24 0xFD2634 (.ld_IYH_n 0x34) ∧ Reads 24 0xFD2E34 (.ld_IYL_n 0x34) ∧
    Reads 24 0xFD3485 (.inc_atIYd 0x85) ∧ Reads 24 0xFD3585 (.dec_atIYd 0x85) ∧
    Reads 24 0xFD4685 (.ld_B_atIYd 0x85) ∧ Reads 24 0xFD4E85 (.ld_C_atIYd 0x85) ∧
    Reads 24 0xFD5685 (.ld_D_atIYd 0x85) ∧ Reads 24 0xFD5E85 (.ld_E_atIYd 0x85) ∧
    Reads 24 0xFD6685 (.ld_H_atIYd 0x85) ∧ Reads 24 0xFD6E85 (.ld_L_atIYd 0x85) ∧
    Reads 24 0xFD7085 (.ld_atIYd_B 0x85) ∧ Reads 24 0xFD7185 (.ld_atIYd_C 0x85) ∧
    Reads 24 0xFD7285 (.ld_atIYd_D 0x85) ∧ Reads 24 0xFD7385 (.ld_atIYd_E 0x85) ∧
    Reads 24 0xFD7485 (.ld_atIYd_H 0x85) ∧ Reads 24 0xFD7585 (.ld_atIYd_L 0x85) :=
  ⟨rfl, rfl, rfl, rfl, rfl, rfl, rfl, rfl, rfl, rfl, rfl, rfl, rfl, rfl, rfl, rfl⟩

theorem test_decode_FD_3_1 :
    Reads 24 0xFD7785 (.ld_atIYd_A 0x85) ∧ Reads 24 0xFD7E85 (.ld_A_atIYd 0x85) ∧
    Reads 24 0xFD8685 (.add_A_atIYd 0x85) ∧ Reads 24 0xFD8E85 (.adc_A_atIYd 0x85) ∧
    Reads 24 0xFD9685 (.sub_atIYd 0x85) ∧ Reads 24 0xFD9E85 (.sbc_A_atIYd 0x85) ∧
    Reads 24 0xFDA685 (.and_atIYd 0x85) ∧ Reads 24 0xFDAE85 (.xor_atIYd 0x85) ∧
    Reads 24 0xFDB685 (.or_atIYd 0x85) ∧ Reads 24 0xFDBE85 (.cp_atIYd 0x85) ∧
    Reads 24 0xFDED00 (.prefixIY_ED (.noni 0x00)) :=
  ⟨rfl, rfl, rfl, rfl, rfl, rfl, rfl, rfl, rfl, rfl, rfl⟩

theorem test_decode_DDCB_4_0 :
    Reads 32 0xDDCB8500 (.rlc_atIXd_B 0x85) ∧ Reads 32 0xDDCB8501 (.rlc_atIXd_C 0x85) ∧
    Reads 32 0xDDCB8502 (.rlc_atIXd_D 0x85) ∧ Reads 32 0xDDCB8503 (.rlc_atIXd_E 0x85) ∧
    Reads 32 0xDDCB8504 (.rlc_atIXd_H 0x85) ∧ Reads 32 0xDDCB8505 (.rlc_atIXd_L 0x85) ∧
    Reads 32 0xDDCB8506 (.rlc_atIXd 0x85) ∧ Reads 32 0xDDCB8507 (.rlc_atIXd_A 0x85) ∧
    Reads 32 0xDDCB8508 (.rrc_atIXd_B 0x85) ∧ Reads 32 0xDDCB8509 (.rrc_atIXd_C 0x85) ∧
    Reads 32 0xDDCB850A (.rrc_atIXd_D 0x85) ∧ Reads 32 0xDDCB850B (.rrc_atIXd_E 0x85) ∧
    Reads 32 0xDDCB850C (.rrc_atIXd_H 0x85) ∧ Reads 32 0xDDCB850D (.rrc_atIXd_L 0x85) ∧
    Reads 32 0xDDCB850E (.rrc_atIXd 0x85) ∧ Reads 32 0xDDCB850F (.rrc_atIXd_A 0x85) :=
  ⟨rfl, rfl, rfl, rfl, rfl, rfl, rfl, rfl, rfl, rfl, rfl, rfl, rfl, rfl, rfl, rfl⟩

theorem test_decode_DDCB_4_1 :
    Reads 32 0xDDCB8510 (.rl_atIXd_B 0x85) ∧ Reads 32 0xDDCB8511 (.rl_atIXd_C 0x85) ∧
    Reads 32 0xDDCB8512 (.rl_atIXd_D 0x85) ∧ Reads 32 0xDDCB8513 (.rl_atIXd_E 0x85) ∧
    Reads 32 0xDDCB8514 (.rl_atIXd_H 0x85) ∧ Reads 32 0xDDCB8515 (.rl_atIXd_L 0x85) ∧
    Reads 32 0xDDCB8516 (.rl_atIXd 0x85) ∧ Reads 32 0xDDCB8517 (.rl_atIXd_A 0x85) ∧
    Reads 32 0xDDCB8518 (.rr_atIXd_B 0x85) ∧ Reads 32 0xDDCB8519 (.rr_atIXd_C 0x85) ∧
    Reads 32 0xDDCB851A (.rr_atIXd_D 0x85) ∧ Reads 32 0xDDCB851B (.rr_atIXd_E 0x85) ∧
    Reads 32 0xDDCB851C (.rr_atIXd_H 0x85) ∧ Reads 32 0xDDCB851D (.rr_atIXd_L 0x85) ∧
    Reads 32 0xDDCB851E (.rr_atIXd 0x85) ∧ Reads 32 0xDDCB851F (.rr_atIXd_A 0x85) :=
  ⟨rfl, rfl, rfl, rfl, rfl, rfl, rfl, rfl, rfl, rfl, rfl, rfl, rfl, rfl, rfl, rfl⟩

theorem test_decode_DDCB_4_2 :
    Reads 32 0xDDCB8520 (.sla_atIXd_B 0x85) ∧ Reads 32 0xDDCB8521 (.sla_atIXd_C 0x85) ∧
    Reads 32 0xDDCB8522 (.sla_atIXd_D 0x85) ∧ Reads 32 0xDDCB8523 (.sla_atIXd_E 0x85) ∧
    Reads 32 0xDDCB8524 (.sla_atIXd_H 0x85) ∧ Reads 32 0xDDCB8525 (.sla_atIXd_L 0x85) ∧
    Reads 32 0xDDCB8526 (.sla_atIXd 0x85) ∧ Reads 32 0xDDCB8527 (.sla_atIXd_A 0x85) ∧
    Reads 32 0xDDCB8528 (.sra_atIXd_B 0x85) ∧ Reads 32 0xDDCB8529 (.sra_atIXd_C 0x85) ∧
    Reads 32 0xDDCB852A (.sra_atIXd_D 0x85) ∧ Reads 32 0xDDCB852B (.sra_atIXd_E 0x85) ∧
    Reads 32 0xDDCB852C (.sra_atIXd_H 0x85) ∧ Reads 32 0xDDCB852D (.sra_atIXd_L 0x85) ∧
    Reads 32 0xDDCB852E (.sra_atIXd 0x85) ∧ Reads 32 0xDDCB852F (.sra_atIXd_A 0x85) :=
  ⟨rfl, rfl, rfl, rfl, rfl, rfl, rfl, rfl, rfl, rfl, rfl, rfl, rfl, rfl, rfl, rfl⟩

theorem test_decode_DDCB_4_3 :
    Reads 32 0xDDCB8530 (.sll_atIXd_B 0x85) ∧ Reads 32 0xDDCB8531 (.sll_atIXd_C 0x85) ∧
    Reads 32 0xDDCB8532 (.sll_atIXd_D 0x85) ∧ Reads 32 0xDDCB8533 (.sll_atIXd_E 0x85) ∧
    Reads 32 0xDDCB8534 (.sll_atIXd_H 0x85) ∧ Reads 32 0xDDCB8535 (.sll_atIXd_L 0x85) ∧
    Reads 32 0xDDCB8536 (.sll_atIXd 0x85) ∧ Reads 32 0xDDCB8537 (.sll_atIXd_A 0x85) ∧
    Reads 32 0xDDCB8538 (.srl_atIXd_B 0x85) ∧ Reads 32 0xDDCB8539 (.srl_atIXd_C 0x85) ∧
    Reads 32 0xDDCB853A (.srl_atIXd_D 0x85) ∧ Reads 32 0xDDCB853B (.srl_atIXd_E 0x85) ∧
    Reads 32 0xDDCB853C (.srl_atIXd_H 0x85) ∧ Reads 32 0xDDCB853D (.srl_atIXd_L 0x85) ∧
    Reads 32 0xDDCB853E (.srl_atIXd 0x85) ∧ Reads 32 0xDDCB853F (.srl_atIXd_A 0x85) :=
  ⟨rfl, rfl, rfl, rfl, rfl, rfl, rfl, rfl, rfl, rfl, rfl, rfl, rfl, rfl, rfl, rfl⟩

theorem test_decode_DDCB_4_4 :
    Reads 32 0xDDCB8540 (.bit_0_atIXd 0x85 0) ∧ Reads 32 0xDDCB8548 (.bit_1_atIXd 0x85 0) ∧
    Reads 32 0xDDCB8550 (.bit_2_atIXd 0x85 0) ∧ Reads 32 0xDDCB8558 (.bit_3_atIXd 0x85 0) ∧
    Reads 32 0xDDCB8560 (.bit_4_atIXd 0x85 0) ∧ Reads 32 0xDDCB8568 (.bit_5_atIXd 0x85 0) ∧
    Reads 32 0xDDCB8570 (.bit_6_atIXd 0x85 0) ∧ Reads 32 0xDDCB8578 (.bit_7_atIXd 0x85 0) ∧
    Reads 32 0xDDCB8580 (.res_0_atIXd_B 0x85) ∧ Reads 32 0xDDCB8581 (.res_0_atIXd_C 0x85) ∧
    Reads 32 0xDDCB8582 (.res_0_atIXd_D 0x85) ∧ Reads 32 0xDDCB8583 (.res_0_atIXd_E 0x85) ∧
    Reads 32 0xDDCB8584 (.res_0_atIXd_H 0x85) ∧ Reads 32 0xDDCB8585 (.res_0_atIXd_L 0x85) ∧
    Reads 32 0xDDCB8586 (.res_0_atIXd 0x85) ∧ Reads 32 0xDDCB8587 (.res_0_atIXd_A 0x85) :=
  ⟨rfl, rfl, rfl, rfl, rfl, rfl, rfl, rfl, rfl, rfl, rfl, rfl, rfl, rfl, rfl, rfl⟩

theorem test_decode_DDCB_4_5 :
    Reads 32 0xDDCB8588 (.res_1_atIXd_B 0x85) ∧ Reads 32 0xDDCB8589 (.res_1_atIXd_C 0x85) ∧
    Reads 32 0xDDCB858A (.res_1_atIXd_D 0x85) ∧ Reads 32 0xDDCB858B (.res_1_atIXd_E 0x85) ∧
    Reads 32 0xDDCB858C (.res_1_atIXd_H 0x85) ∧ Reads 32 0xDDCB858D (.res_1_atIXd_L 0x85) ∧
    Reads 32 0xDDCB858E (.res_1_atIXd 0x85) ∧ Reads 32 0xDDCB858F (.res_1_atIXd_A 0x85) ∧
    Reads 32 0xDDCB8590 (.res_2_atIXd_B 0x85) ∧ Reads 32 0xDDCB8591 (.res_2_atIXd_C 0x85) ∧
    Reads 32 0xDDCB8592 (.res_2_atIXd_D 0x85) ∧ Reads 32 0xDDCB8593 (.res_2_atIXd_E 0x85) ∧
    Reads 32 0xDDCB8594 (.res_2_atIXd_H 0x85) ∧ Reads 32 0xDDCB8595 (.res_2_atIXd_L 0x85) ∧
    Reads 32 0xDDCB8596 (.res_2_atIXd 0x85) ∧ Reads 32 0xDDCB8597 (.res_2_atIXd_A 0x85) :=
  ⟨rfl, rfl, rfl, rfl, rfl, rfl, rfl, rfl, rfl, rfl, rfl, rfl, rfl, rfl, rfl, rfl⟩

theorem test_decode_DDCB_4_6 :
    Reads 32 0xDDCB8598 (.res_3_atIXd_B 0x85) ∧ Reads 32 0xDDCB8599 (.res_3_atIXd_C 0x85) ∧
    Reads 32 0xDDCB859A (.res_3_atIXd_D 0x85) ∧ Reads 32 0xDDCB859B (.res_3_atIXd_E 0x85) ∧
    Reads 32 0xDDCB859C (.res_3_atIXd_H 0x85) ∧ Reads 32 0xDDCB859D (.res_3_atIXd_L 0x85) ∧
    Reads 32 0xDDCB859E (.res_3_atIXd 0x85) ∧ Reads 32 0xDDCB859F (.res_3_atIXd_A 0x85) ∧
    Reads 32 0xDDCB85A0 (.res_4_atIXd_B 0x85) ∧ Reads 32 0xDDCB85A1 (.res_4_atIXd_C 0x85) ∧
    Reads 32 0xDDCB85A2 (.res_4_atIXd_D 0x85) ∧ Reads 32 0xDDCB85A3 (.res_4_atIXd_E 0x85) ∧
    Reads 32 0xDDCB85A4 (.res_4_atIXd_H 0x85) ∧ Reads 32 0xDDCB85A5 (.res_4_atIXd_L 0x85) ∧
    Reads 32 0xDDCB85A6 (.res_4_atIXd 0x85) ∧ Reads 32 0xDDCB85A7 (.res_4_atIXd_A 0x85) :=
  ⟨rfl, rfl, rfl, rfl, rfl, rfl, rfl, rfl, rfl, rfl, rfl, rfl, rfl, rfl, rfl, rfl⟩

theorem test_decode_DDCB_4_7 :
    Reads 32 0xDDCB85A8 (.res_5_atIXd_B 0x85) ∧ Reads 32 0xDDCB85A9 (.res_5_atIXd_C 0x85) ∧
    Reads 32 0xDDCB85AA (.res_5_atIXd_D 0x85) ∧ Reads 32 0xDDCB85AB (.res_5_atIXd_E 0x85) ∧
    Reads 32 0xDDCB85AC (.res_5_atIXd_H 0x85) ∧ Reads 32 0xDDCB85AD (.res_5_atIXd_L 0x85) ∧
    Reads 32 0xDDCB85AE (.res_5_atIXd 0x85) ∧ Reads 32 0xDDCB85AF (.res_5_atIXd_A 0x85) ∧
    Reads 32 0xDDCB85B0 (.res_6_atIXd_B 0x85) ∧ Reads 32 0xDDCB85B1 (.res_6_atIXd_C 0x85) ∧
    Reads 32 0xDDCB85B2 (.res_6_atIXd_D 0x85) ∧ Reads 32 0xDDCB85B3 (.res_6_atIXd_E 0x85) ∧
    Reads 32 0xDDCB85B4 (.res_6_atIXd_H 0x85) ∧ Reads 32 0xDDCB85B5 (.res_6_atIXd_L 0x85) ∧
    Reads 32 0xDDCB85B6 (.res_6_atIXd 0x85) ∧ Reads 32 0xDDCB85B7 (.res_6_atIXd_A 0x85) :=
  ⟨rfl, rfl, rfl, rfl, rfl, rfl, rfl, rfl, rfl, rfl, rfl, rfl, rfl, rfl, rfl, rfl⟩

theorem test_decode_DDCB_4_8 :
    Reads 32 0xDDCB85B8 (.res_7_atIXd_B 0x85) ∧ Reads 32 0xDDCB85B9 (.res_7_atIXd_C 0x85) ∧
    Reads 32 0xDDCB85BA (.res_7_atIXd_D 0x85) ∧ Reads 32 0xDDCB85BB (.res_7_atIXd_E 0x85) ∧
    Reads 32 0xDDCB85BC (.res_7_atIXd_H 0x85) ∧ Reads 32 0xDDCB85BD (.res_7_atIXd_L 0x85) ∧
    Reads 32 0xDDCB85BE (.res_7_atIXd 0x85) ∧ Reads 32 0xDDCB85BF (.res_7_atIXd_A 0x85) ∧
    Reads 32 0xDDCB85C0 (.set_0_atIXd_B 0x85) ∧ Reads 32 0xDDCB85C1 (.set_0_atIXd_C 0x85) ∧
    Reads 32 0xDDCB85C2 (.set_0_atIXd_D 0x85) ∧ Reads 32 0xDDCB85C3 (.set_0_atIXd_E 0x85) ∧
    Reads 32 0xDDCB85C4 (.set_0_atIXd_H 0x85) ∧ Reads 32 0xDDCB85C5 (.set_0_atIXd_L 0x85) ∧
    Reads 32 0xDDCB85C6 (.set_0_atIXd 0x85) ∧ Reads 32 0xDDCB85C7 (.set_0_atIXd_A 0x85) :=
  ⟨rfl, rfl, rfl, rfl, rfl, rfl, rfl, rfl, rfl, rfl, rfl, rfl, rfl, rfl, rfl, rfl⟩

theorem test_decode_DDCB_4_9 :
    Reads 32 0xDDCB85C8 (.set_1_atIXd_B 0x85) ∧ Reads 32 0xDDCB85C9 (.set_1_atIXd_C 0x85) ∧
    Reads 32 0xDDCB85CA (.set_1_atIXd_D 0x85) ∧ Reads 32 0xDDCB85CB (.set_1_atIXd_E 0x85) ∧
    Reads 32 0xDDCB85CC (.set_1_atIXd_H 0x85) ∧ Reads 32 0xDDCB85CD (.set_1_atIXd_L 0x85) ∧
    Reads 32 0xDDCB85CE (.set_1_atIXd 0x85) ∧ Reads 32 0xDDCB85CF (.set_1_atIXd_A 0x85) ∧
    Reads 32 0xDDCB85D0 (.set_2_atIXd_B 0x85) ∧ Reads 32 0xDDCB85D1 (.set_2_atIXd_C 0x85) ∧
    Reads 32 0xDDCB85D2 (.set_2_atIXd_D 0x85) ∧ Reads 32 0xDDCB85D3 (.set_2_atIXd_E 0x85) ∧
    Reads 32 0xDDCB85D4 (.set_2_atIXd_H 0x85) ∧ Reads 32 0xDDCB85D5 (.set_2_atIXd_L 0x85) ∧
    Reads 32 0xDDCB85D6 (.set_2_atIXd 0x85) ∧ Reads 32 0xDDCB85D7 (.set_2_atIXd_A 0x85) :=
  ⟨rfl, rfl, rfl, rfl, rfl, rfl, rfl, rfl, rfl, rfl, rfl, rfl, rfl, rfl, rfl, rfl⟩

theorem test_decode_DDCB_4_10 :
    Reads 32 0xDDCB85D8 (.set_3_atIXd_B 0x85) ∧ Reads 32 0xDDCB85D9 (.set_3_atIXd_C 0x85) ∧
    Reads 32 0xDDCB85DA (.set_3_atIXd_D 0x85) ∧ Reads 32 0xDDCB85DB (.set_3_atIXd_E 0x85) ∧
    Reads 32 0xDDCB85DC (.set_3_atIXd_H 0x85) ∧ Reads 32 0xDDCB85DD (.set_3_atIXd_L 0x85) ∧
    Reads 32 0xDDCB85DE (.set_3_atIXd 0x85) ∧ Reads 32 0xDDCB85DF (.set_3_atIXd_A 0x85) ∧
    Reads 32 0xDDCB85E0 (.set_4_atIXd_B 0x85) ∧ Reads 32 0xDDCB85E1 (.set_4_atIXd_C 0x85) ∧
    Reads 32 0xDDCB85E2 (.set_4_atIXd_D 0x85) ∧ Reads 32 0xDDCB85E3 (.set_4_atIXd_E 0x85) ∧
    Reads 32 0xDDCB85E4 (.set_4_atIXd_H 0x85) ∧ Reads 32 0xDDCB85E5 (.set_4_atIXd_L 0x85) ∧
    Reads 32 0xDDCB85E6 (.set_4_atIXd 0x85) ∧ Reads 32 0xDDCB85E7 (.set_4_atIXd_A 0x85) :=
  ⟨rfl, rfl, rfl, rfl, rfl, rfl, rfl, rfl, rfl, rfl, rfl, rfl, rfl, rfl, rfl, rfl⟩

theorem test_decode_DDCB_4_11 :
    Reads 32 0xDDCB85E8 (.set_5_atIXd_B 0x85) ∧ Reads 32 0xDDCB85E9 (.set_5_atIXd_C 0x85) ∧
    Reads 32 0xDDCB85EA (.set_5_atIXd_D 0x85) ∧ Reads 32 0xDDCB85EB (.set_5_atIXd_E 0x85) ∧
    Reads 32 0xDDCB85EC (.set_5_atIXd_H 0x85) ∧ Reads 32 0xDDCB85ED (.set_5_atIXd_L 0x85) ∧
    Reads 32 0xDDCB85EE (.set_5_atIXd 0x85) ∧ Reads 32 0xDDCB85EF (.set_5_atIXd_A 0x85) ∧
    Reads 32 0xDDCB85F0 (.set_6_atIXd_B 0x85) ∧ Reads 32 0xDDCB85F1 (.set_6_atIXd_C 0x85) ∧
    Reads 32 0xDDCB85F2 (.set_6_atIXd_D 0x85) ∧ Reads 32 0xDDCB85F3 (.set_6_atIXd_E 0x85) ∧
    Reads 32 0xDDCB85F4 (.set_6_atIXd_H 0x85) ∧ Reads 32 0xDDCB85F5 (.set_6_atIXd_L 0x85) ∧
    Reads 32 0xDDCB85F6 (.set_6_atIXd 0x85) ∧ Reads 32 0xDDCB85F7 (.set_6_atIXd_A 0x85) :=
  ⟨rfl, rfl, rfl, rfl, rfl, rfl, rfl, rfl, rfl, rfl, rfl, rfl, rfl, rfl, rfl, rfl⟩

theorem test_decode_DDCB_4_12 :
    Reads 32 0xDDCB85F8 (.set_7_atIXd_B 0x85) ∧ Reads 32 0xDDCB85F9 (.set_7_atIXd_C 0x85) ∧
    Reads 32 0xDDCB85FA (.set_7_atIXd_D 0x85) ∧ Reads 32 0xDDCB85FB (.set_7_atIXd_E 0x85) ∧
    Reads 32 0xDDCB85FC (.set_7_atIXd_H 0x85) ∧ Reads 32 0xDDCB85FD (.set_7_atIXd_L 0x85) ∧
    Reads 32 0xDDCB85FE (.set_7_atIXd 0x85) ∧ Reads 32 0xDDCB85FF (.set_7_atIXd_A 0x85) :=
  ⟨rfl, rfl, rfl, rfl, rfl, rfl, rfl, rfl⟩

theorem test_decode_FDCB_4_0 :
    Reads 32 0xFDCB8500 (.rlc_atIYd_B 0x85) ∧ Reads 32 0xFDCB8501 (.rlc_atIYd_C 0x85) ∧
    Reads 32 0xFDCB8502 (.rlc_atIYd_D 0x85) ∧ Reads 32 0xFDCB8503 (.rlc_atIYd_E 0x85) ∧
    Reads 32 0xFDCB8504 (.rlc_atIYd_H 0x85) ∧ Reads 32 0xFDCB8505 (.rlc_atIYd_L 0x85) ∧
    Reads 32 0xFDCB8506 (.rlc_atIYd 0x85) ∧ Reads 32 0xFDCB8507 (.rlc_atIYd_A 0x85) ∧
    Reads 32 0xFDCB8508 (.rrc_atIYd_B 0x85) ∧ Reads 32 0xFDCB8509 (.rrc_atIYd_C 0x85) ∧
    Reads 32 0xFDCB850A (.rrc_atIYd_D 0x85) ∧ Reads 32 0xFDCB850B (.rrc_atIYd_E 0x85) ∧
    Reads 32 0xFDCB850C (.rrc_atIYd_H 0x85) ∧ Reads 32 0xFDCB850D (.rrc_atIYd_L 0x85) ∧
    Reads 32 0xFDCB850E (.rrc_atIYd 0x85) ∧ Reads 32 0xFDCB850F (.rrc_atIYd_A 0x85) :=
  ⟨rfl, rfl, rfl, rfl, rfl, rfl, rfl, rfl, rfl, rfl, rfl, rfl, rfl, rfl, rfl, rfl⟩

theorem test_decode_FDCB_4_1 :
    Reads 32 0xFDCB8510 (.rl_atIYd_B 0x85) ∧ Reads 32 0xFDCB8511 (.rl_atIYd_C 0x85) ∧
    Reads 32 0xFDCB8512 (.rl_atIYd_D 0x85) ∧ Reads 32 0xFDCB8513 (.rl_atIYd_E 0x85) ∧
    Reads 32 0xFDCB8514 (.rl_atIYd_H 0x85) ∧ Reads 32 0xFDCB8515 (.rl_atIYd_L 0x85) ∧
    Reads 32 0xFDCB8516 (.rl_atIYd 0x85) ∧ Reads 32 0xFDCB8517 (.rl_atIYd_A 0x85) ∧
    Reads 32 0xFDCB8518 (.rr_atIYd_B 0x85) ∧ Reads 32 0xFDCB8519 (.rr_atIYd_C 0x85) ∧
    Reads 32 0xFDCB851A (.rr_atIYd_D 0x85) ∧ Reads 32 0xFDCB851B (.rr_atIYd_E 0x85) ∧
    Reads 32 0xFDCB851C (.rr_atIYd_H 0x85) ∧ Reads 32 0xFDCB851D (.rr_atIYd_L 0x85) ∧
    Reads 32 0xFDCB851E (.rr_atIYd 0x85) ∧ Reads 32 0xFDCB851F (.rr_atIYd_A 0x85) :=
  ⟨rfl, rfl, rfl, rfl, rfl, rfl, rfl, rfl, rfl, rfl, rfl, rfl, rfl, rfl, rfl, rfl⟩

theorem test_decode_FDCB_4_2 :
    Reads 32 0xFDCB8520 (.sla_atIYd_B 0x85) ∧ Reads 32 0xFDCB8521 (.sla_atIYd_C 0x85) ∧
    Reads 32 0xFDCB8522 (.sla_atIYd_D 0x85) ∧ Reads 32 0xFDCB8523 (.sla_atIYd_E 0x85) ∧
    Reads 32 0xFDCB8524 (.sla_atIYd_H 0x85) ∧ Reads 32 0xFDCB8525 (.sla_atIYd_L 0x85) ∧
    Reads 32 0xFDCB8526 (.sla_atIYd 0x85) ∧ Reads 32 0xFDCB8527 (.sla_atIYd_A 0x85) ∧
    Reads 32 0xFDCB8528 (.sra_atIYd_B 0x85) ∧ Reads 32 0xFDCB8529 (.sra_atIYd_C 0x85) ∧
    Reads 32 0xFDCB852A (.sra_atIYd_D 0x85) ∧ Reads 32 0xFDCB852B (.sra_atIYd_E 0x85) ∧
    Reads 32 0xFDCB852C (.sra_atIYd_H 0x85) ∧ Reads 32 0xFDCB852D (.sra_atIYd_L 0x85) ∧
    Reads 32 0xFDCB852E (.sra_atIYd 0x85) ∧ Reads 32 0xFDCB852F (.sra_atIYd_A 0x85) :=
  ⟨rfl, rfl, rfl, rfl, rfl, rfl, rfl, rfl, rfl, rfl, rfl, rfl, rfl, rfl, rfl, rfl⟩

theorem test_decode_FDCB_4_3 :
    Reads 32 0xFDCB8530 (.sll_atIYd_B 0x85) ∧ Reads 32 0xFDCB8531 (.sll_atIYd_C 0x85) ∧
    Reads 32 0xFDCB8532 (.sll_atIYd_D 0x85) ∧ Reads 32 0xFDCB8533 (.sll_atIYd_E 0x85) ∧
    Reads 32 0xFDCB8534 (.sll_atIYd_H 0x85) ∧ Reads 32 0xFDCB8535 (.sll_atIYd_L 0x85) ∧
    Reads 32 0xFDCB8536 (.sll_atIYd 0x85) ∧ Reads 32 0xFDCB8537 (.sll_atIYd_A 0x85) ∧
    Reads 32 0xFDCB8538 (.srl_atIYd_B 0x85) ∧ Reads 32 0xFDCB8539 (.srl_atIYd_C 0x85) ∧
    Reads 32 0xFDCB853A (.srl_atIYd_D 0x85) ∧ Reads 32 0xFDCB853B (.srl_atIYd_E 0x85) ∧
    Reads 32 0xFDCB853C (.srl_atIYd_H 0x85) ∧ Reads 32 0xFDCB853D (.srl_atIYd_L 0x85) ∧
    Reads 32 0xFDCB853E (.srl_atIYd 0x85) ∧ Reads 32 0xFDCB853F (.srl_atIYd_A 0x85) :=
  ⟨rfl, rfl, rfl, rfl, rfl, rfl, rfl, rfl, rfl, rfl, rfl, rfl, rfl, rfl, rfl, rfl⟩

theorem test_decode_FDCB_4_4 :
    Reads 32 0xFDCB8540 (.bit_0_atIYd 0x85 0) ∧ Reads 32 0xFDCB8548 (.bit_1_atIYd 0x85 0) ∧
    Reads 32 0xFDCB8550 (.bit_2_atIYd 0x85 0) ∧ Reads 32 0xFDCB8558 (.bit_3_atIYd 0x85 0) ∧
    Reads 32 0xFDCB8560 (.bit_4_atIYd 0x85 0) ∧ Reads 32 0xFDCB8568 (.bit_5_atIYd 0x85 0) ∧
    Reads 32 0xFDCB8570 (.bit_6_atIYd 0x85 0) ∧ Reads 32 0xFDCB8578 (.bit_7_atIYd 0x85 0) ∧
    Reads 32 0xFDCB8580 (.res_0_atIYd_B 0x85) ∧ Reads 32 0xFDCB8581 (.res_0_atIYd_C 0x85) ∧
    Reads 32 0xFDCB8582 (.res_0_atIYd_D 0x85) ∧ Reads 32 0xFDCB8583 (.res_0_atIYd_E 0x85) ∧
    Reads 32 0xFDCB8584 (.res_0_atIYd_H 0x85) ∧ Reads 32 0xFDCB8585 (.res_0_atIYd_L 0x85) ∧
    Reads 32 0xFDCB8586 (.res_0_atIYd 0x85) ∧ Reads 32 0xFDCB8587 (.res_0_atIYd_A 0x85) :=
  ⟨rfl, rfl, rfl, rfl, rfl, rfl, rfl, rfl, rfl, rfl, rfl, rfl, rfl, rfl, rfl, rfl⟩

theorem test_decode_FDCB_4_5 :
    Reads 32 0xFDCB8588 (.res_1_atIYd_B 0x85) ∧ Reads 32 0xFDCB8589 (.res_1_atIYd_C 0x85) ∧
    Reads 32 0xFDCB858A (.res_1_atIYd_D 0x85) ∧ Reads 32 0xFDCB858B (.res_1_atIYd_E 0x85) ∧
    Reads 32 0xFDCB858C (.res_1_atIYd_H 0x85) ∧ Reads 32 0xFDCB858D (.res_1_atIYd_L 0x85) ∧
    Reads 32 0xFDCB858E (.res_1_atIYd 0x85) ∧ Reads 32 0xFDCB858F (.res_1_atIYd_A 0x85) ∧
    Reads 32 0xFDCB8590 (.res_2_atIYd_B 0x85) ∧ Reads 32 0xFDCB8591 (.res_2_atIYd_C 0x85) ∧
    Reads 32 0xFDCB8592 (.res_2_atIYd_D 0x85) ∧ Reads 32 0xFDCB8593 (.res_2_atIYd_E 0x85) ∧
    Reads 32 0xFDCB8594 (.res_2_atIYd_H 0x85) ∧ Reads 32 0xFDCB8595 (.res_2_atIYd_L 0x85) ∧
    Reads 32 0xFDCB8596 (.res_2_atIYd 0x85) ∧ Reads 32 0xFDCB8597 (.res_2_atIYd_A 0x85) :=
  ⟨rfl, rfl, rfl, rfl, rfl, rfl, rfl, rfl, rfl, rfl, rfl, rfl, rfl, rfl, rfl, rfl⟩

theorem test_decode_FDCB_4_6 :
    Reads 32 0xFDCB8598 (.res_3_atIYd_B 0x85) ∧ Reads 32 0xFDCB8599 (.res_3_atIYd_C 0x85) ∧
    Reads 32 0xFDCB859A (.res_3_atIYd_D 0x85) ∧ Reads 32 0xFDCB859B (.res_3_atIYd_E 0x85) ∧
    Reads 32 0xFDCB859C (.res_3_atIYd_H 0x85) ∧ Reads 32 0xFDCB859D (.res_3_atIYd_L 0x85) ∧
    Reads 32 0xFDCB859E (.res_3_atIYd 0x85) ∧ Reads 32 0xFDCB859F (.res_3_atIYd_A 0x85) ∧
    Reads 32 0xFDCB85A0 (.res_4_atIYd_B 0x85) ∧ Reads 32 0xFDCB85A1 (.res_4_atIYd_C 0x85) ∧
    Reads 32 0xFDCB85A2 (.res_4_atIYd_D 0x85) ∧ Reads 32 0xFDCB85A3 (.res_4_atIYd_E 0x85) ∧
    Reads 32 0xFDCB85A4 (.res_4_atIYd_H 0x85) ∧ Reads 32 0xFDCB85A5 (.res_4_atIYd_L 0x85) ∧
    Reads 32 0xFDCB85A6 (.res_4_atIYd 0x85) ∧ Reads 32 0xFDCB85A7 (.res_4_atIYd_A 0x85) :=
  ⟨rfl, rfl, rfl, rfl, rfl, rfl, rfl, rfl, rfl, rfl, rfl, rfl, rfl, rfl, rfl, rfl⟩

theorem test_decode_FDCB_4_7 :
    Reads 32 0xFDCB85A8 (.res_5_atIYd_B 0x85) ∧ Reads 32 0xFDCB85A9 (.res_5_atIYd_C 0x85) ∧
    Reads 32 0xFDCB85AA (.res_5_atIYd_D 0x85) ∧ Reads 32 0xFDCB85AB (.res_5_atIYd_E 0x85) ∧
    Reads 32 0xFDCB85AC (.res_5_atIYd_H 0x85) ∧ Reads 32 0xFDCB85AD (.res_5_atIYd_L 0x85) ∧
    Reads 32 0xFDCB85AE (.res_5_atIYd 0x85) ∧ Reads 32 0xFDCB85AF (.res_5_atIYd_A 0x85) ∧
    Reads 32 0xFDCB85B0 (.res_6_atIYd_B 0x85) ∧ Reads 32 0xFDCB85B1 (.res_6_atIYd_C 0x85) ∧
    Reads 32 0xFDCB85B2 (.res_6_atIYd_D 0x85) ∧ Reads 32 0xFDCB85B3 (.res_6_atIYd_E 0x85) ∧
    Reads 32 0xFDCB85B4 (.res_6_atIYd_H 0x85) ∧ Reads 32 0xFDCB85B5 (.res_6_atIYd_L 0x85) ∧
    Reads 32 0xFDCB85B6 (.res_6_atIYd 0x85) ∧ Reads 32 0xFDCB85B7 (.res_6_atIYd_A 0x85) :=
  ⟨rfl, rfl, rfl, rfl, rfl, rfl, rfl, rfl, rfl, rfl, rfl, rfl, rfl, rfl, rfl, rfl⟩

theorem test_decode_FDCB_4_8 :
    Reads 32 0xFDCB85B8 (.res_7_atIYd_B 0x85) ∧ Reads 32 0xFDCB85B9 (.res_7_atIYd_C 0x85) ∧
    Reads 32 0xFDCB85BA (.res_7_atIYd_D 0x85) ∧ Reads 32 0xFDCB85BB (.res_7_atIYd_E 0x85) ∧
    Reads 32 0xFDCB85BC (.res_7_atIYd_H 0x85) ∧ Reads 32 0xFDCB85BD (.res_7_atIYd_L 0x85) ∧
    Reads 32 0xFDCB85BE (.res_7_atIYd 0x85) ∧ Reads 32 0xFDCB85BF (.res_7_atIYd_A 0x85) ∧
    Reads 32 0xFDCB85C0 (.set_0_atIYd_B 0x85) ∧ Reads 32 0xFDCB85C1 (.set_0_atIYd_C 0x85) ∧
    Reads 32 0xFDCB85C2 (.set_0_atIYd_D 0x85) ∧ Reads 32 0xFDCB85C3 (.set_0_atIYd_E 0x85) ∧
    Reads 32 0xFDCB85C4 (.set_0_atIYd_H 0x85) ∧ Reads 32 0xFDCB85C5 (.set_0_atIYd_L 0x85) ∧
    Reads 32 0xFDCB85C6 (.set_0_atIYd 0x85) ∧ Reads 32 0xFDCB85C7 (.set_0_atIYd_A 0x85) :=
  ⟨rfl, rfl, rfl, rfl, rfl, rfl, rfl, rfl, rfl, rfl, rfl, rfl, rfl, rfl, rfl, rfl⟩

theorem test_decode_FDCB_4_9 :
    Reads 32 0xFDCB85C8 (.set_1_atIYd_B 0x85) ∧ Reads 32 0xFDCB85C9 (.set_1_atIYd_C 0x85) ∧
    Reads 32 0xFDCB85CA (.set_1_atIYd_D 0x85) ∧ Reads 32 0xFDCB85CB (.set_1_atIYd_E 0x85) ∧
    Reads 32 0xFDCB85CC (.set_1_atIYd_H 0x85) ∧ Reads 32 0xFDCB85CD (.set_1_atIYd_L 0x85) ∧
    Reads 32 0xFDCB85CE (.set_1_atIYd 0x85) ∧ Reads 32 0xFDCB85CF (.set_1_atIYd_A 0x85) ∧
    Reads 32 0xFDCB85D0 (.set_2_atIYd_B 0x85) ∧ Reads 32 0xFDCB85D1 (.set_2_atIYd_C 0x85) ∧
    Reads 32 0xFDCB85D2 (.set_2_atIYd_D 0x85) ∧ Reads 32 0xFDCB85D3 (.set_2_atIYd_E 0x85) ∧
    Reads 32 0xFDCB85D4 (.set_2_atIYd_H 0x85) ∧ Reads 32 0xFDCB85D5 (.set_2_atIYd_L 0x85) ∧
    Reads 32 0xFDCB85D6 (.set_2_atIYd 0x85) ∧ Reads 32 0xFDCB85D7 (.set_2_atIYd_A 0x85) :=
  ⟨rfl, rfl, rfl, rfl, rfl, rfl, rfl, rfl, rfl, rfl, rfl, rfl, rfl, rfl, rfl, rfl⟩

theorem test_decode_FDCB_4_10 :
    Reads 32 0xFDCB85D8 (.set_3_atIYd_B 0x85) ∧ Reads 32 0xFDCB85D9 (.set_3_atIYd_C 0x85) ∧
    Reads 32 0xFDCB85DA (.set_3_atIYd_D 0x85) ∧ Reads 32 0xFDCB85DB (.set_3_atIYd_E 0x85) ∧
    Reads 32 0xFDCB85DC (.set_3_atIYd_H 0x85) ∧ Reads 32 0xFDCB85DD (.set_3_atIYd_L 0x85) ∧
    Reads 32 0xFDCB85DE (.set_3_atIYd 0x85) ∧ Reads 32 0xFDCB85DF (.set_3_atIYd_A 0x85) ∧
    Reads 32 0xFDCB85E0 (.set_4_atIYd_B 0x85) ∧ Reads 32 0xFDCB85E1 (.set_4_atIYd_C 0x85) ∧
    Reads 32 0xFDCB85E2 (.set_4_atIYd_D 0x85) ∧ Reads 32 0xFDCB85E3 (.set_4_atIYd_E 0x85) ∧
    Reads 32 0xFDCB85E4 (.set_4_atIYd_H 0x85) ∧ Reads 32 0xFDCB85E5 (.set_4_atIYd_L 0x85) ∧
    Reads 32 0xFDCB85E6 (.set_4_atIYd 0x85) ∧ Reads 32 0xFDCB85E7 (.set_4_atIYd_A 0x85) :=
  ⟨rfl, rfl, rfl, rfl, rfl, rfl, rfl, rfl, rfl, rfl, rfl, rfl, rfl, rfl, rfl, rfl⟩

theorem test_decode_FDCB_4_11 :
    Reads 32 0xFDCB85E8 (.set_5_atIYd_B 0x85) ∧ Reads 32 0xFDCB85E9 (.set_5_atIYd_C 0x85) ∧
    Reads 32 0xFDCB85EA (.set_5_atIYd_D 0x85) ∧ Reads 32 0xFDCB85EB (.set_5_atIYd_E 0x85) ∧
    Reads 32 0xFDCB85EC (.set_5_atIYd_H 0x85) ∧ Reads 32 0xFDCB85ED (.set_5_atIYd_L 0x85) ∧
    Reads 32 0xFDCB85EE (.set_5_atIYd 0x85) ∧ Reads 32 0xFDCB85EF (.set_5_atIYd_A 0x85) ∧
    Reads 32 0xFDCB85F0 (.set_6_atIYd_B 0x85) ∧ Reads 32 0xFDCB85F1 (.set_6_atIYd_C 0x85) ∧
    Reads 32 0xFDCB85F2 (.set_6_atIYd_D 0x85) ∧ Reads 32 0xFDCB85F3 (.set_6_atIYd_E 0x85) ∧
    Reads 32 0xFDCB85F4 (.set_6_atIYd_H 0x85) ∧ Reads 32 0xFDCB85F5 (.set_6_atIYd_L 0x85) ∧
    Reads 32 0xFDCB85F6 (.set_6_atIYd 0x85) ∧ Reads 32 0xFDCB85F7 (.set_6_atIYd_A 0x85) :=
  ⟨rfl, rfl, rfl, rfl, rfl, rfl, rfl, rfl, rfl, rfl, rfl, rfl, rfl, rfl, rfl, rfl⟩

theorem test_decode_FDCB_4_12 :
    Reads 32 0xFDCB85F8 (.set_7_atIYd_B 0x85) ∧ Reads 32 0xFDCB85F9 (.set_7_atIYd_C 0x85) ∧
    Reads 32 0xFDCB85FA (.set_7_atIYd_D 0x85) ∧ Reads 32 0xFDCB85FB (.set_7_atIYd_E 0x85) ∧
    Reads 32 0xFDCB85FC (.set_7_atIYd_H 0x85) ∧ Reads 32 0xFDCB85FD (.set_7_atIYd_L 0x85) ∧
    Reads 32 0xFDCB85FE (.set_7_atIYd 0x85) ∧ Reads 32 0xFDCB85FF (.set_7_atIYd_A 0x85) :=
  ⟨rfl, rfl, rfl, rfl, rfl, rfl, rfl, rfl⟩

end Sys2Proof.Tests
end

