-- ==== Sys2Proof/Tests/Slice0.lean ====
section
/-! SUPPORT. Tests: ill-formed terms that the check refuses, single steps from spec/95_test_vectors.md, and
for every statement with hypotheses a state and operands that meet them. -/

namespace Sys2Proof.Tests

open Sys2Proof.Machine Sys2Proof.Safety

/-! ### Well-formedness: an ill-formed and a well-formed term for each check -/

/-- ED 44 is NEG, no no-op slot (30_encoding.md rule R116). -/
theorem test_wf_noni :
    (Instr.noni 0x44).wellFormed = false ∧ (Instr.noni 0x00).wellFormed = true ∧
      (Instr.noni 0x77).wellFormed = true ∧ (Instr.noni 0xA0).wellFormed = false ∧
      (Instr.noni 0xFF).wellFormed = true := by decide

/-- y = 1 is RETI's slot. -/
theorem test_wf_retn : (Instr.retn 1).wellFormed = false ∧ (Instr.retn 0).wellFormed = true := by decide

/-- Table `im` is 0, 0, 1, 2, 0, 0, 1, 2 (30_encoding.md rule R107). -/
theorem test_wf_im :
    (Instr.im_0 2).wellFormed = false ∧ (Instr.im_0 5).wellFormed = true ∧
      (Instr.im_1 0).wellFormed = false ∧ (Instr.im_1 6).wellFormed = true ∧
      (Instr.im_2 1).wellFormed = false ∧ (Instr.im_2 7).wellFormed = true := by decide

/-- The ED entry behind a prefix is checked too. -/
theorem test_wf_prefixed :
    (Instr.prefixIX_ED (.noni 0x44)).wellFormed = false ∧ (Instr.prefixIX_ED (.neg 7)).wellFormed = true ∧
      (Instr.prefixIY_ED (.retn 1)).wellFormed = false ∧ (Instr.prefixIY_ED .reti).wellFormed = true := by
  decide

/-! ### Helpers -/

/-- What `f` reads from the next state, if the step answers one. -/
def ran {α : Type} (s : State) (f : State → α) : Option α :=
  match step s with
  | .next t => some (f t)
  | .fault _ => none
  | .refused _ => none

/-- The start of every vector: reset registers, SP = 8000 (95_test_vectors.md section 1). -/
def start : State := { State.reset with sp := 0x8000 }

/-- `s` with code at address 0 and cells in memory. -/
def place (s : State) (code : List Byte) (cells : List (Word × Byte)) : State :=
  { s with
    mem := cells.foldl (fun m c => Memory.write m c.1.toNat c.2) (Memory.writeBytes s.mem 0 code) }

/-! ### Hypotheses that can be met, statement by statement -/

/-- `DecodeEncodeRoundTrip` and `EveryInstructionIsATableEntry`: well-formed instructions exist, at the
boundary of each check. -/
theorem witness_wellFormed :
    (Instr.srl_atIXd_B 0x80).wellFormed = true ∧ (Instr.retn 7).wellFormed = true ∧
      (Instr.im_2 3).wellFormed = true ∧ (Instr.noni 0xBF).wellFormed = true ∧
      (Instr.prefixIY_ED (.store .sp 0xFFFF)).wellFormed = true := by decide

/-- `StepRunsDecodedInstruction`: no interrupt is accepted at reset. -/
theorem witness_noInterrupt : start.takesNmi = false ∧ start.takesInt = false := by decide

/-- `FetchReadsTheInstructionAtPc`: memory answers, at a prefix byte, at an ED byte at the top of the
address space, and at another byte. -/
theorem witness_fetch :
    (place start [0xDD] []).params.busModel = .ram ∧ byteAt (place start [0xDD] []) 0 = 0xDD ∧
      byteAt (place { start with pc := 0xFFFF } [] [(0xFFFF, 0xED)]) 0xFFFF = 0xED ∧
      byteAt (place start [0x76] []) 0 ≠ 0xDD ∧ byteAt (place start [0x76] []) 0 ≠ 0xFD := by decide

/-- The halted state of `HaltedCoreRepeatsHalt` and of the invariant's last clause. -/
def haltedState : State := place { start with halted := true } [0x76] []

/-- `HaltedCoreRepeatsHalt`: all five hypotheses together. -/
theorem witness_halted :
    Inv haltedState ∧ haltedState.halted = true ∧ haltedState.params.busModel = .ram ∧
      haltedState.takesNmi = false ∧ haltedState.takesInt = false :=
  ⟨⟨rfl, by decide, by decide, fun _ _ => ⟨rfl, rfl⟩⟩, rfl, rfl, rfl, rfl⟩

/-- `StepKeepsInvariant`: a state with the invariant, interrupts enabled in the EI shadow, whose step
answers a next state. -/
theorem witness_invariant :
    ∃ t, Inv { start with iff1 := true, iff2 := true, eiPending := true } ∧
      step { start with iff1 := true, iff2 := true, eiPending := true } = .next t :=
  ⟨_, ⟨rfl, fun _ => rfl, fun _ => rfl, by decide⟩, exec_toInstr .nop _⟩

/-- `InvariantAtReset` and every statement with canonical memory: a listed and an empty memory. -/
theorem witness_memory :
    Memory.wf State.reset.mem = true ∧ Memory.wf (place start [0x01] [(0xFFFF, 0xFF)]).mem = true ∧
      (place start [0x01] [(0xFFFF, 0xFF)]).params.busModel = .ram := by decide

/-- `MemoryReadsWhatWasWritten`: two canonical memories with the same contents, and another address. -/
theorem witness_equalMemories :
    Memory.wf [(3, 0x07)] = true ∧ Memory.wf (Memory.write (Memory.write [] 3 0x09) 3 0x07) = true ∧
      (0xFFFF : Word) ≠ 0x0000 := by decide

/-- A state that takes a maskable interrupt, in mode `m` with data byte `v`. -/
def interrupted (m : IntMode) (v : Byte) : State :=
  { start with iff1 := true, iff2 := true, im := m, intLine := true, intData := v }

/-- `OnlyRefusalIsIm0Data` and `Im0Interrupt`, the refused data bytes: a prefix and HALT. -/
theorem witness_refused :
    (interrupted .im0 0xDD).takesNmi = false ∧ (interrupted .im0 0xDD).takesInt = true ∧
      (interrupted .im0 0xDD).im = .im0 ∧ singleByte (interrupted .im0 0xDD).intData = false ∧
      singleByte (interrupted .im0 0x76).intData = false := by decide

/-- `Im0Interrupt`, the executed data bytes: RST 38 meets every clause of its condition. -/
theorem witness_im0 :
    (interrupted .im0 0xFF).indexMode = .hl ∧ (interrupted .im0 0xFF).nmiPending = false ∧
      (interrupted .im0 0xFF).intLine = true ∧ (interrupted .im0 0xFF).iff1 = true ∧
      (interrupted .im0 0xFF).eiPending = false ∧ (interrupted .im0 0xFF).im = .im0 ∧
      instrLength .hl 0xFF 0 = 1 ∧ (0xFF : Byte) ≠ 0xDD ∧ (0xFF : Byte) ≠ 0xFD ∧ (0xFF : Byte) ≠ 0x76 := by
  decide

/-- `NmiAcceptance`: a boundary with the latch set. -/
theorem witness_nmi : start.requestNmi.indexMode = .hl ∧ start.requestNmi.nmiPending = true := by decide

/-- `VectoredInterrupts`: both modes. -/
theorem witness_vectored :
    (interrupted .im1 0xFF).indexMode = .hl ∧ (interrupted .im1 0xFF).nmiPending = false ∧
      (interrupted .im1 0xFF).intLine = true ∧ (interrupted .im1 0xFF).iff1 = true ∧
      (interrupted .im1 0xFF).eiPending = false ∧ (interrupted .im1 0xFF).im ≠ .im0 ∧
      (interrupted .im2 0xFE).im ≠ .im0 ∧ (interrupted .im2 0xFE).takesInt = true := by decide

/-- `InterruptPriority`: each of its clauses. -/
theorem witness_priority :
    ({ start with indexMode := .ix } : State).indexMode ≠ .hl ∧
      (interrupted .im1 0xFF).requestNmi.nmiPending = true ∧
      ((interrupted .im1 0xFF).nmiPending = false ∧ (interrupted .im1 0xFF).intLine = true ∧
        (interrupted .im1 0xFF).iff1 = true ∧ (interrupted .im1 0xFF).eiPending = false) ∧
      ({ interrupted .im1 0xFF with intLine := false } : State).intLine = false ∧
      ({ interrupted .im1 0xFF with iff1 := false } : State).iff1 = false ∧
      ({ interrupted .im1 0xFF with eiPending := true } : State).eiPending = true := by decide

/-- `EiShadowAndPrefixHoldOffInterrupts`: a step of EI, of a prefix and of another instruction. -/
theorem witness_eiShadow :
    (∃ t, (place start [0xFB] []).takesNmi = false ∧ (place start [0xFB] []).takesInt = false ∧
      step (place start [0xFB] []) = .next t ∧ decodeOp .hl (place start [0xFB] []).fetchBytes.1 = .ei) ∧
    (∃ t, step (place start [0xDD] []) = .next t ∧
      decodeOp .hl (place start [0xDD] []).fetchBytes.1 = .index .ix .hl) ∧
    (∃ t, step (place start [0x00] []) = .next t ∧
      decodeOp .hl (place start [0x00] []).fetchBytes.1 = .nop) :=
  ⟨⟨_, rfl, rfl, exec_toInstr .ei _, rfl⟩, ⟨_, exec_toInstr (.index .ix .hl) _, rfl⟩,
    ⟨_, exec_toInstr .nop _, rfl⟩⟩

/-- `ControlRegistersHaveOwnWriters`, `InstructionsLeaveInterruptStateAlone` and
`HistoryGrowsAndRetiPulses`: NOP runs and is none of the writers; RETI runs. -/
theorem witness_writers :
    (∃ t, exec (Op.toInstr .nop) start = .next t) ∧ (∃ t, exec (Op.toInstr (.ed .reti)) start = .next t) ∧
      Op.nop ≠ .exAf ∧ Op.nop ≠ .exx ∧ (∀ y, Op.nop ≠ .ed (.im y)) ∧ (∀ x y, Op.nop ≠ .edUnder x (.im y)) ∧
      Op.nop ≠ .ed .ldIA ∧ (∀ x, Op.nop ≠ .edUnder x .ldIA) ∧ Op.nop ≠ .ed .ldRA ∧
      (∀ x, Op.nop ≠ .edUnder x .ldRA) ∧ Op.toInstr .nop = .nop ∧ Instr.nop ≠ .ei ∧ Instr.nop ≠ .di ∧
      Instr.nop ≠ .halt :=
  ⟨⟨_, exec_toInstr _ _⟩, ⟨_, exec_toInstr _ _⟩, nofun, nofun, nofun, nofun, nofun, nofun, nofun, nofun, rfl,
    nofun, nofun, nofun⟩

/-- `InstructionsLeaveInterruptStateAlone`: RETI and RETN return from a handler, behind a prefix too, and RET
does not. -/
theorem witness_returns :
    [Instr.reti, .retn 7, .prefixIX_ED .reti, .prefixIY_ED (.retn 0)].all returnsFromHandler = true ∧
      [Instr.ret, .prefixIX_ED (.neg 0), .nop].any returnsFromHandler = false := by decide

/-- `PrefixSteps`: NOP, EX AF,AF', EX DE,HL, EXX, HALT and POP BC are opcodes a prefix does not affect, and
one of them stands at PC; ADD HL,BC, INC (HL), LD H,B, CB and ED are opcodes it affects. -/
theorem witness_unaffected :
    [0x00, 0x08, 0xEB, 0xD9, 0x76, 0xC1].all (fun op : Byte => decide (op ∉ prefixedOpcodes)) = true ∧
      (place start [0xEB] []).busByte 0 ∉ prefixedOpcodes ∧
      [0x09, 0x34, 0x60, 0xCB, 0xED].all (fun op : Byte => decide (op ∈ prefixedOpcodes)) = true := by decide

/-- `Additions`, `Subtractions`, `Comparisons`, `LogicOperations`: an entry of each source form, for each
of the eight operations. -/
theorem witness_aluForms (a : AluOp) :
    AluForm a (.loc (.reg .b)) (.aluReg .hl a .b) ∧ AluForm a (.loc (.half .iy .hi)) (.aluReg .iy a .h) ∧
      AluForm a (.mem .atHL) (.aluMem a .atHL) ∧
      AluForm a (.mem (.atIdx .ix 0x80)) (.aluMem a (.atIdx .ix 0x80)) ∧
      AluForm a (.imm 0xFF) (.aluImm a 0xFF) :=
  ⟨.inl ⟨.hl, .b, rfl, rfl⟩, .inl ⟨.iy, .h, rfl, rfl⟩, .inr (.inl ⟨.atHL, rfl, rfl⟩),
    .inr (.inl ⟨.atIdx .ix 0x80, rfl, rfl⟩), .inr (.inr ⟨0xFF, rfl, rfl⟩)⟩

/-- `LogicOperations`: its operations. -/
theorem witness_logic : (AluOp.and = .and ∨ AluOp.and = .xor ∨ AluOp.and = .or) := .inl rfl

/-- `CallsAndRestarts`, `Returns`, `Jumps`: a condition that holds and one that does not. -/
theorem witness_conditions : condition .nz start = true ∧ condition .z start = false := by decide

/-- `IndexedRotates`, `IndexedResetAndSetBits`: a copy under the spec's default and under `all`. -/
theorem witness_copies :
    copyTarget start true (some .h) = some .h ∧
      copyTarget { start with params := { start.params with ddcbCopy := .all } } false (some .b) = some .b := by
  decide

/-! ### Placing and resetting -/

/-- `withFetchWord` places what the next step runs: SRL (IX+5),B, its prefix already read. -/
theorem test_withFetchWord :
    step (State.reset.withFetchWord 32 0xDDCB0538) =
      exec (.srl_atIXd_B 0x05) (State.reset.withFetchWord 32 0xDDCB0538).fetched := rfl

/-- The NMI entry of 60_exceptions.md rule R506: PC = 1234 is pushed, PC = 0066. -/
theorem test_nmi :
    ran ({ start with pc := 0x1234, iff1 := true, iff2 := true } : State).requestNmi
      (fun t => (t.pc, t.sp, byteAt t 0x7FFF, byteAt t 0x7FFE, t.iff1, t.iff2, t.ticks)) =
    some (0x0066, 0x7FFE, 0x12, 0x34, false, true, 11) := rfl

/-- The mode 2 entry of 60_exceptions.md rule R510: the vector at I : data = 20FE holds 4567. -/
theorem test_im2 :
    ran (place { interrupted .im2 0xFE with i := 0x20 } [] [(0x20FE, 0x67), (0x20FF, 0x45)])
      (fun t => (t.pc, t.wz, t.sp, t.iff1, t.iff2, t.ticks)) =
    some (0x4567, 0x4567, 0x7FFE, false, false, 19) := rfl

/-- The refusal of 60_exceptions.md rule R512: CB is no single-byte instruction. -/
theorem test_im0_refused : step (interrupted .im0 0xCB) = .refused (.im0Data 0xCB) := rfl

/-! ### Single steps from the vectors of 95_test_vectors.md -/

/-- Vector L1 of 95_test_vectors.md (R200). -/
theorem test_L1_R200 :
    ran (place { start with main.c := 0x5A, main.f := 0xFF } [0x41] [])
      (fun t => (t.main.f, t.bc, t.pc, t.r, t.ticks)) =
    some (0xFF, 0x5A5A, 0x0001, 0x01, 4) := rfl

/-- Vector L2 of 95_test_vectors.md (R201). -/
theorem test_L2_R201 :
    ran (place start [0x3E, 0x9C] [])
      (fun t => (t.main.a, t.main.f, t.pc, t.r, t.ticks)) =
    some (0x9C, 0x00, 0x0002, 0x01, 7) := rfl

/-- Vector L3 of 95_test_vectors.md (R202). -/
theorem test_L3_R202 :
    ran (place { start with main.h := 0x40, main.l := 0x00 } [0x7E] [(0x4000, 0x77)])
      (fun t => (t.main.a, t.main.f, t.pc, t.r, t.ticks)) =
    some (0x77, 0x00, 0x0001, 0x01, 7) := rfl

/-- Vector L4 of 95_test_vectors.md (R206). -/
theorem test_L4_R206 :
    ran (place { start with main.h := 0x40, main.l := 0x00 } [0x36, 0xAB] [])
      (fun t => (t.main.f, t.pc, t.r, t.ticks, Memory.read t.mem 0x4000)) =
    some (0x00, 0x0002, 0x01, 10, 0xAB) := rfl

/-- Vector L5 of 95_test_vectors.md (R203). -/
theorem test_L5_R203 :
    ran (place { start with ix := 0x4002, indexMode := .ix, pc := 0x0001, r := 0x01, ticks := 4 }
      [0xDD, 0x7E, 0xFE] [(0x4000, 0x11)])
      (fun t => (t.main.a, t.main.f, t.pc, t.wz, t.r, t.ticks)) =
    some (0x11, 0x00, 0x0003, 0x4000, 0x02, 19) := rfl

/-- Vector L6 of 95_test_vectors.md (R207). -/
theorem test_L6_R207 :
    ran (place { start with iy := 0x4000, indexMode := .iy, pc := 0x0001, r := 0x01, ticks := 4 }
      [0xFD, 0x36, 0x05, 0x99] [])
      (fun t => (t.main.f, t.pc, t.wz, t.r, t.ticks, Memory.read t.mem 0x4005)) =
    some (0x00, 0x0004, 0x4005, 0x02, 19, 0x99) := rfl

/-- Vector L8 of 95_test_vectors.md (R205). -/
theorem test_L8_R205 :
    ran (place { start with ix := 0x0010, main.h := 0x5E, indexMode := .ix, pc := 0x0001, r := 0x01, ticks := 4 }
      [0xDD, 0x74, 0x80] [])
      (fun t => (t.main.f, t.pc, t.wz, t.r, t.ticks, Memory.read t.mem 0xFF90)) =
    some (0x00, 0x0003, 0xFF90, 0x02, 19, 0x5E) := rfl

/-- Vector L9 of 95_test_vectors.md (R214). -/
theorem test_L9_R214 :
    ran (place { start with main.a := 0x12, ix := 0x3456, indexMode := .ix, pc := 0x0001, r := 0x01, ticks := 4 }
      [0xDD, 0x67] [])
      (fun t => (t.main.f, t.ix, t.pc, t.r, t.ticks)) =
    some (0x00, 0x1256, 0x0002, 0x02, 8) := rfl

/-- Vector L11 of 95_test_vectors.md (R208). -/
theorem test_L11_R208 :
    ran (place { start with main.b := 0xFF, main.c := 0xFF } [0x0A] [(0xFFFF, 0x05)])
      (fun t => (t.main.a, t.main.f, t.pc, t.r, t.ticks)) =
    some (0x05, 0x00, 0x0001, 0x01, 7) := rfl

/-- Vector L12 of 95_test_vectors.md (R213). -/
theorem test_L12_R213 :
    ran (place { start with main.a := 0x07 } [0x32, 0xFF, 0x50] [])
      (fun t => (t.main.f, t.pc, t.wz, t.r, t.ticks, Memory.read t.mem 0x50FF)) =
    some (0x00, 0x0003, 0x0700, 0x01, 13, 0x07) := rfl

/-- Vector L13 of 95_test_vectors.md (R212). -/
theorem test_L13_R212 :
    ran (place { start with main.d := 0x40, main.e := 0x00, main.a := 0x55 } [0x12] [])
      (fun t => (t.main.f, t.pc, t.wz, t.r, t.ticks, Memory.read t.mem 0x4000)) =
    some (0x00, 0x0001, 0x5501, 0x01, 7, 0x55) := rfl

/-- Vector L14 of 95_test_vectors.md (R216). -/
theorem test_L14_R216 :
    ran (place { start with i := 0x80, iff2 := true, main.f := 0x01 } [0xED, 0x57] [])
      (fun t => (t.main.a, t.main.f, t.pc, t.r, t.ticks)) =
    some (0x80, 0x85, 0x0002, 0x02, 9) := rfl

/-- Vector L16 of 95_test_vectors.md (R217). -/
theorem test_L16_R217 :
    ran (place { start with r := 0x7E, iff2 := true } [0xED, 0x5F] [])
      (fun t => (t.main.f, t.pc, t.r, t.ticks)) =
    some (0x44, 0x0002, 0x00, 9) := rfl

/-- Vector L17 of 95_test_vectors.md (R219). -/
theorem test_L17_R219 :
    ran (place { start with main.a := 0x85 } [0xED, 0x4F] [])
      (fun t => (t.main.f, t.pc, t.r, t.ticks)) =
    some (0x00, 0x0002, 0x85, 9) := rfl

/-- Vector L18 of 95_test_vectors.md (R218). -/
theorem test_L18_R218 :
    ran (place { start with main.a := 0x3F } [0xED, 0x47] [])
      (fun t => (t.main.f, t.pc, t.i, t.r, t.ticks)) =
    some (0x00, 0x0002, 0x3F, 0x02, 9) := rfl

/-- Vector W1 of 95_test_vectors.md (R230). -/
theorem test_W1_R230 :
    ran (place start [0x31, 0x34, 0x12] [])
      (fun t => (t.main.f, t.sp, t.pc, t.r, t.ticks)) =
    some (0x00, 0x1234, 0x0003, 0x01, 10) := rfl

/-- Vector W2 of 95_test_vectors.md (R232). -/
theorem test_W2_R232 :
    ran (place start [0x2A, 0x00, 0x50] [(0x5000, 0x34), (0x5001, 0x12)])
      (fun t => (t.main.f, t.hl, t.pc, t.wz, t.r, t.ticks)) =
    some (0x00, 0x1234, 0x0003, 0x5001, 0x01, 16) := rfl

/-- Vector W3 of 95_test_vectors.md (R234). -/
theorem test_W3_R234 :
    ran (place { start with main.h := 0x12, main.l := 0x34 } [0x22, 0xFF, 0xFF] [])
      (fun t => (t.main.f, t.pc, t.r, t.ticks, Memory.read t.mem 0x0000, Memory.read t.mem 0xFFFF)) =
    some (0x00, 0x0003, 0x01, 16, 0x12, 0x34) := rfl

/-- Vector W4 of 95_test_vectors.md (R236). -/
theorem test_W4_R236 :
    ran (place start [0xED, 0x4B, 0x00, 0x50] [(0x5000, 0xCD), (0x5001, 0xAB)])
      (fun t => (t.main.f, t.bc, t.pc, t.wz, t.r, t.ticks)) =
    some (0x00, 0xABCD, 0x0004, 0x5001, 0x02, 20) := rfl

/-- Vector W5 of 95_test_vectors.md (R237). -/
theorem test_W5_R237 :
    ran (place { start with sp := 0x8765 } [0xED, 0x73, 0x00, 0x50] [])
      (fun t => (t.main.f, t.pc, t.wz, t.r, t.ticks, Memory.read t.mem 0x5000, Memory.read t.mem 0x5001)) =
    some (0x00, 0x0004, 0x5001, 0x02, 20, 0x65, 0x87) := rfl

/-- Vector W6 of 95_test_vectors.md (R235). -/
theorem test_W6_R235 :
    ran (place { start with ix := 0xBEEF, indexMode := .ix, pc := 0x0001, r := 0x01, ticks := 4 }
      [0xDD, 0x22, 0x00, 0x50] [])
      (fun t => (t.main.f, t.pc, t.wz, t.r, t.ticks, Memory.read t.mem 0x5000, Memory.read t.mem 0x5001)) =
    some (0x00, 0x0004, 0x5001, 0x02, 20, 0xEF, 0xBE) := rfl

/-- Vector W7 of 95_test_vectors.md (R240). -/
theorem test_W7_R240 :
    ran (place { start with main.a := 0x12, main.f := 0x34 } [0xF5] [])
      (fun t => (t.main.f, t.sp, t.pc, t.r, t.ticks, Memory.read t.mem 0x7FFE, Memory.read t.mem 0x7FFF)) =
    some (0x34, 0x7FFE, 0x0001, 0x01, 11, 0x34, 0x12) := rfl

/-- Vector W8 of 95_test_vectors.md (R243). -/
theorem test_W8_R243 :
    ran (place { start with sp := 0x7FFE, indexMode := .ix, pc := 0x0001, r := 0x01, ticks := 4 }
      [0xDD, 0xE1] [(0x7FFE, 0xCD), (0x7FFF, 0xAB)])
      (fun t => (t.main.f, t.ix, t.sp, t.pc, t.r, t.ticks)) =
    some (0x00, 0xABCD, 0x8000, 0x0002, 0x02, 14) := rfl

/-- Vector W9 of 95_test_vectors.md (R242). -/
theorem test_W9_R242 :
    ran (place { start with sp := 0x7FFE } [0xF1] [(0x7FFE, 0xFF), (0x7FFF, 0x00)])
      (fun t => (t.main.f, t.sp, t.pc, t.r, t.ticks)) =
    some (0xFF, 0x8000, 0x0001, 0x01, 10) := rfl

/-- Vector W11 of 95_test_vectors.md (R247). -/
theorem test_W11_R247 :
    ran (place { start with main.h := 0xAB, main.l := 0xCD } [0xE3] [(0x8000, 0x34), (0x8001, 0x12)])
      (fun t => (t.main.f, t.hl, t.pc, t.wz, t.r, t.ticks, Memory.read t.mem 0x8000,
      Memory.read t.mem 0x8001)) =
    some (0x00, 0x1234, 0x0001, 0x1234, 0x01, 19, 0xCD, 0xAB) := rfl

/-- Vector W12 of 95_test_vectors.md (R248). -/
theorem test_W12_R248 :
    ran (place { start with iy := 0xABCD, indexMode := .iy, pc := 0x0001, r := 0x01, ticks := 4 }
      [0xFD, 0xE3] [(0x8000, 0x34), (0x8001, 0x12)])
      (fun t => (t.main.f, t.iy, t.pc, t.wz, t.r, t.ticks, Memory.read t.mem 0x8000,
      Memory.read t.mem 0x8001)) =
    some (0x00, 0x1234, 0x0002, 0x1234, 0x02, 23, 0xCD, 0xAB) := rfl

/-- Vector W13 of 95_test_vectors.md (R245). -/
theorem test_W13_R245 :
    ran (place { start with main.a := 0x11, main.f := 0x22, shadow.a := 0x33, shadow.f := 0x44 } [0x08] [])
      (fun t => (t.main.a, t.main.f, t.pc, t.r, t.ticks, t.shadow.a, t.shadow.f)) =
    some (0x33, 0x44, 0x0001, 0x01, 4, 0x11, 0x22) := rfl

/-- Vector W14 of 95_test_vectors.md (R246). -/
theorem test_W14_R246 :
    ran (place { start with main.b := 0x11, main.c := 0x11, main.d := 0x22, main.e := 0x22, main.h := 0x33, main.l := 0x33, shadow.b := 0xAA, shadow.c := 0xAA, shadow.d := 0xBB, shadow.e := 0xBB, shadow.h := 0xCC, shadow.l := 0xCC }
      [0xD9] [])
      (fun t => (t.main.f, t.bc, t.de, t.hl, t.pc, t.r, t.ticks, t.shadow.b, t.shadow.c, t.shadow.d,
      t.shadow.e, t.shadow.h, t.shadow.l)) =
    some (0x00, 0xAAAA, 0xBBBB, 0xCCCC, 0x0001, 0x01, 4, 0x11, 0x11, 0x22, 0x22, 0x33, 0x33) := rfl

/-- Vector W15 of 95_test_vectors.md (R437). -/
theorem test_W15_R437 :
    ran (place { start with main.d := 0x11, main.e := 0x11, main.h := 0x22, main.l := 0x22, ix := 0x3333, indexMode := .ix, pc := 0x0001, r := 0x01, ticks := 4 }
      [0xDD, 0xEB] [])
      (fun t => (t.main.f, t.de, t.hl, t.pc, t.r, t.ticks)) =
    some (0x00, 0x2222, 0x1111, 0x0002, 0x02, 8) := rfl

/-- Vector W16 of 95_test_vectors.md (R239). -/
theorem test_W16_R239 :
    ran (place { start with ix := 0x9000, indexMode := .ix, pc := 0x0001, r := 0x01, ticks := 4 }
      [0xDD, 0xF9] [])
      (fun t => (t.main.f, t.sp, t.pc, t.r, t.ticks)) =
    some (0x00, 0x9000, 0x0002, 0x02, 10) := rfl

/-- Vector A1 of 95_test_vectors.md (R266). -/
theorem test_A1_R266 :
    ran (place { start with main.a := 0x7F, main.b := 0x01 } [0x80] [])
      (fun t => (t.main.a, t.main.f, t.pc, t.r, t.ticks)) =
    some (0x80, 0x94, 0x0001, 0x01, 4) := rfl

/-- Vector A3 of 95_test_vectors.md (R267). -/
theorem test_A3_R267 :
    ran (place { start with main.a := 0x0F, main.f := 0x01 } [0xCE, 0x00] [])
      (fun t => (t.main.a, t.main.f, t.pc, t.r, t.ticks)) =
    some (0x10, 0x10, 0x0002, 0x01, 7) := rfl

/-- Vector A5 of 95_test_vectors.md (R268). -/
theorem test_A5_R268 :
    ran (place { start with main.a := 0x80, main.b := 0x01 } [0x90] [])
      (fun t => (t.main.a, t.main.f, t.pc, t.r, t.ticks)) =
    some (0x7F, 0x3E, 0x0001, 0x01, 4) := rfl

/-- Vector A7 of 95_test_vectors.md (R269). -/
theorem test_A7_R269 :
    ran (place { start with main.a := 0x00, main.f := 0x01 } [0xDE, 0x00] [])
      (fun t => (t.main.a, t.main.f, t.pc, t.r, t.ticks)) =
    some (0xFF, 0xBB, 0x0002, 0x01, 7) := rfl

/-- Vector A9 of 95_test_vectors.md (R270). -/
theorem test_A9_R270 :
    ran (place { start with main.a := 0xF0, main.f := 0x03 } [0xE6, 0x3C] [])
      (fun t => (t.main.a, t.main.f, t.pc, t.r, t.ticks)) =
    some (0x30, 0x34, 0x0002, 0x01, 7) := rfl

/-- Vector A10 of 95_test_vectors.md (R271). -/
theorem test_A10_R271 :
    ran (place { start with main.a := 0x5A, main.f := 0xFF } [0xAF] [])
      (fun t => (t.main.a, t.main.f, t.pc, t.r, t.ticks)) =
    some (0x00, 0x44, 0x0001, 0x01, 4) := rfl

/-- Vector A11 of 95_test_vectors.md (R272). -/
theorem test_A11_R272 :
    ran (place { start with main.a := 0x80 } [0xF6, 0x01] [])
      (fun t => (t.main.a, t.main.f, t.pc, t.r, t.ticks)) =
    some (0x81, 0x84, 0x0002, 0x01, 7) := rfl

/-- Vector A12 of 95_test_vectors.md (R273). -/
theorem test_A12_R273 :
    ran (place { start with main.a := 0x40 } [0xFE, 0x28] [])
      (fun t => (t.main.f, t.pc, t.r, t.ticks)) =
    some (0x1A, 0x0002, 0x01, 7) := rfl

/-- Vector A17 of 95_test_vectors.md (R274). -/
theorem test_A17_R274 :
    ran (place { start with main.a := 0x7F, main.f := 0x01 } [0x3C] [])
      (fun t => (t.main.a, t.main.f, t.pc, t.r, t.ticks)) =
    some (0x80, 0x95, 0x0001, 0x01, 4) := rfl

/-- Vector A18 of 95_test_vectors.md (R275). -/
theorem test_A18_R275 :
    ran (place { start with main.h := 0x40, main.l := 0x00 } [0x34] [(0x4000, 0xFF)])
      (fun t => (t.main.f, t.pc, t.r, t.ticks, Memory.read t.mem 0x4000)) =
    some (0x50, 0x0001, 0x01, 11, 0x00) := rfl

/-- Vector A19 of 95_test_vectors.md (R276). -/
theorem test_A19_R276 :
    ran (place { start with main.b := 0x80, main.f := 0x01 } [0x05] [])
      (fun t => (t.main.f, t.bc, t.pc, t.r, t.ticks)) =
    some (0x3F, 0x7F00, 0x0001, 0x01, 4) := rfl

/-- Vector A23 of 95_test_vectors.md (R278). -/
theorem test_A23_R278 :
    ran (place { start with main.a := 0x3C } [0x27] [])
      (fun t => (t.main.a, t.main.f, t.pc, t.r, t.ticks)) =
    some (0x42, 0x14, 0x0001, 0x01, 4) := rfl

/-- Vector A27 of 95_test_vectors.md (R279). -/
theorem test_A27_R279 :
    ran (place { start with main.a := 0x5A } [0x2F] [])
      (fun t => (t.main.a, t.main.f, t.pc, t.r, t.ticks)) =
    some (0xA5, 0x32, 0x0001, 0x01, 4) := rfl

/-- Vector A28 of 95_test_vectors.md (R280). -/
theorem test_A28_R280 :
    ran (place { start with main.a := 0x80 } [0xED, 0x44] [])
      (fun t => (t.main.f, t.pc, t.r, t.ticks)) =
    some (0x87, 0x0002, 0x02, 8) := rfl

/-- Vector A31 of 95_test_vectors.md (R281). -/
theorem test_A31_R281 :
    ran (place { start with main.a := 0x28 } [0x37] [])
      (fun t => (t.main.f, t.pc, t.r, t.ticks)) =
    some (0x29, 0x0001, 0x01, 4) := rfl

/-- Vector A32 of 95_test_vectors.md (R282). -/
theorem test_A32_R282 :
    ran (place { start with main.a := 0x00, main.f := 0x01 } [0x3F] [])
      (fun t => (t.main.f, t.pc, t.r, t.ticks)) =
    some (0x10, 0x0001, 0x01, 4) := rfl

/-- Vector D1 of 95_test_vectors.md (R303). -/
theorem test_D1_R303 :
    ran (place { start with main.h := 0x0F, main.l := 0xFF, main.b := 0x00, main.c := 0x01 } [0x09] [])
      (fun t => (t.main.f, t.hl, t.pc, t.wz, t.r, t.ticks)) =
    some (0x10, 0x1000, 0x0001, 0x1000, 0x01, 11) := rfl

/-- Vector D3 of 95_test_vectors.md (R304). -/
theorem test_D3_R304 :
    ran (place { start with ix := 0xFFFF, sp := 0x0001, indexMode := .ix, pc := 0x0001, r := 0x01, ticks := 4 }
      [0xDD, 0x39] [])
      (fun t => (t.main.f, t.ix, t.pc, t.r, t.ticks)) =
    some (0x11, 0x0000, 0x0002, 0x02, 15) := rfl

/-- Vector D5 of 95_test_vectors.md (R305). -/
theorem test_D5_R305 :
    ran (place { start with main.h := 0x7F, main.l := 0xFF, main.d := 0x00, main.e := 0x00, main.f := 0x01 }
      [0xED, 0x5A] [])
      (fun t => (t.main.f, t.hl, t.pc, t.wz, t.r, t.ticks)) =
    some (0x94, 0x8000, 0x0002, 0x8000, 0x02, 15) := rfl

/-- Vector D7 of 95_test_vectors.md (R306). -/
theorem test_D7_R306 :
    ran (place { start with main.h := 0x80, main.l := 0x00, main.b := 0x00, main.c := 0x01 } [0xED, 0x42] [])
      (fun t => (t.main.f, t.hl, t.pc, t.wz, t.r, t.ticks)) =
    some (0x3E, 0x7FFF, 0x0002, 0x8001, 0x02, 15) := rfl

/-- Vector D10 of 95_test_vectors.md (R307). -/
theorem test_D10_R307 :
    ran (place { start with sp := 0xFFFF, main.f := 0x55 } [0x33] [])
      (fun t => (t.main.f, t.sp, t.pc, t.r, t.ticks)) =
    some (0x55, 0x0000, 0x0001, 0x01, 6) := rfl

/-- Vector D11 of 95_test_vectors.md (R308). -/
theorem test_D11_R308 :
    ran (place { start with main.b := 0x00, main.c := 0x00 } [0x0B] [])
      (fun t => (t.main.f, t.bc, t.pc, t.r, t.ticks)) =
    some (0x00, 0xFFFF, 0x0001, 0x01, 6) := rfl

/-- Vector D12 of 95_test_vectors.md (R310). -/
theorem test_D12_R310 :
    ran (place { start with iy := 0x0000, indexMode := .iy, pc := 0x0001, r := 0x01, ticks := 4 }
      [0xFD, 0x2B] [])
      (fun t => (t.main.f, t.iy, t.pc, t.r, t.ticks)) =
    some (0x00, 0xFFFF, 0x0002, 0x02, 10) := rfl

/-- Vector D13 of 95_test_vectors.md (R309). -/
theorem test_D13_R309 :
    ran (place { start with ix := 0x00FF, indexMode := .ix, pc := 0x0001, r := 0x01, ticks := 4 }
      [0xDD, 0x23] [])
      (fun t => (t.main.f, t.ix, t.pc, t.r, t.ticks)) =
    some (0x00, 0x0100, 0x0002, 0x02, 10) := rfl

/-- Vector S1 of 95_test_vectors.md (R320). -/
theorem test_S1_R320 :
    ran (place { start with main.a := 0x81 } [0x07] [])
      (fun t => (t.main.a, t.main.f, t.pc, t.r, t.ticks)) =
    some (0x03, 0x01, 0x0001, 0x01, 4) := rfl

/-- Vector S2 of 95_test_vectors.md (R321). -/
theorem test_S2_R321 :
    ran (place { start with main.a := 0x01, main.f := 0xC4 } [0x0F] [])
      (fun t => (t.main.a, t.main.f, t.pc, t.r, t.ticks)) =
    some (0x80, 0xC5, 0x0001, 0x01, 4) := rfl

/-- Vector S3 of 95_test_vectors.md (R322). -/
theorem test_S3_R322 :
    ran (place { start with main.a := 0x80 } [0x17] [])
      (fun t => (t.main.a, t.main.f, t.pc, t.r, t.ticks)) =
    some (0x00, 0x01, 0x0001, 0x01, 4) := rfl

/-- Vector S4 of 95_test_vectors.md (R323). -/
theorem test_S4_R323 :
    ran (place { start with main.a := 0x01, main.f := 0x01 } [0x1F] [])
      (fun t => (t.main.a, t.main.f, t.pc, t.r, t.ticks)) =
    some (0x80, 0x01, 0x0001, 0x01, 4) := rfl

/-- Vector S5 of 95_test_vectors.md (R325). -/
theorem test_S5_R325 :
    ran (place { start with main.b := 0x80 } [0xCB, 0x00] [])
      (fun t => (t.main.f, t.bc, t.pc, t.r, t.ticks)) =
    some (0x01, 0x0100, 0x0002, 0x02, 8) := rfl

/-- Vector S6 of 95_test_vectors.md (R326). -/
theorem test_S6_R326 :
    ran (place { start with main.h := 0x40, main.l := 0x00 } [0xCB, 0x0E] [(0x4000, 0x01)])
      (fun t => (t.main.f, t.pc, t.r, t.ticks, Memory.read t.mem 0x4000)) =
    some (0x81, 0x0002, 0x02, 15, 0x80) := rfl

/-- Vector S7 of 95_test_vectors.md (R327). -/
theorem test_S7_R327 :
    ran (place { start with main.c := 0x80 } [0xCB, 0x11] [])
      (fun t => (t.main.f, t.bc, t.pc, t.r, t.ticks)) =
    some (0x45, 0x0000, 0x0002, 0x02, 8) := rfl

/-- Vector S8 of 95_test_vectors.md (R328). -/
theorem test_S8_R328 :
    ran (place { start with main.d := 0x01, main.f := 0x01 } [0xCB, 0x1A] [])
      (fun t => (t.main.f, t.de, t.pc, t.r, t.ticks)) =
    some (0x81, 0x8000, 0x0002, 0x02, 8) := rfl

/-- Vector S9 of 95_test_vectors.md (R329). -/
theorem test_S9_R329 :
    ran (place { start with main.e := 0x80 } [0xCB, 0x23] [])
      (fun t => (t.main.f, t.de, t.pc, t.r, t.ticks)) =
    some (0x45, 0x0000, 0x0002, 0x02, 8) := rfl

/-- Vector S10 of 95_test_vectors.md (R330). -/
theorem test_S10_R330 :
    ran (place { start with main.h := 0x81 } [0xCB, 0x2C] [])
      (fun t => (t.main.f, t.hl, t.pc, t.r, t.ticks)) =
    some (0x85, 0xC000, 0x0002, 0x02, 8) := rfl

/-- Vector S11 of 95_test_vectors.md (R331). -/
theorem test_S11_R331 :
    ran (place { start with main.l := 0x00 } [0xCB, 0x35] [])
      (fun t => (t.main.f, t.hl, t.pc, t.r, t.ticks)) =
    some (0x00, 0x0001, 0x0002, 0x02, 8) := rfl

/-- Vector S12 of 95_test_vectors.md (R332). -/
theorem test_S12_R332 :
    ran (place { start with main.a := 0x01 } [0xCB, 0x3F] [])
      (fun t => (t.main.a, t.main.f, t.pc, t.r, t.ticks)) =
    some (0x00, 0x45, 0x0002, 0x02, 8) := rfl

/-- Vector S13 of 95_test_vectors.md (R335). -/
theorem test_S13_R335 :
    ran (place { start with main.h := 0x40, main.l := 0x00, main.f := 0x01 } [0xCB, 0x7E] [(0x4000, 0x80)])
      (fun t => (t.main.f, t.pc, t.r, t.ticks)) =
    some (0x91, 0x0002, 0x02, 12) := rfl

/-- Vector S14 of 95_test_vectors.md (R334). -/
theorem test_S14_R334 :
    ran (place { start with main.b := 0x00, main.f := 0x01 } [0xCB, 0x40] [])
      (fun t => (t.main.f, t.pc, t.r, t.ticks)) =
    some (0x55, 0x0002, 0x02, 8) := rfl

/-- Vector S18 of 95_test_vectors.md (R337). -/
theorem test_S18_R337 :
    ran (place { start with main.h := 0x40, main.l := 0x00 } [0xCB, 0x86] [(0x4000, 0xFF)])
      (fun t => (t.main.f, t.pc, t.r, t.ticks, Memory.read t.mem 0x4000)) =
    some (0x00, 0x0002, 0x02, 15, 0xFE) := rfl

/-- Vector S19 of 95_test_vectors.md (R338). -/
theorem test_S19_R338 :
    ran (place { start with main.a := 0x00, main.f := 0x00 } [0xCB, 0xFF] [])
      (fun t => (t.main.a, t.main.f, t.pc, t.r, t.ticks)) =
    some (0x80, 0x00, 0x0002, 0x02, 8) := rfl

/-- Vector S20 of 95_test_vectors.md (R341). -/
theorem test_S20_R341 :
    ran (place { start with ix := 0x4000, main.b := 0x77, indexMode := .ix, pc := 0x0001, r := 0x01, ticks := 4 }
      [0xDD, 0xCB, 0x05, 0x38] [(0x4005, 0x81)])
      (fun t => (t.main.f, t.pc, t.wz, t.r, t.ticks, Memory.read t.mem 0x4005)) =
    some (0x01, 0x0004, 0x4005, 0x02, 23, 0x40) := rfl

/-- Vector S25 of 95_test_vectors.md (R342). -/
theorem test_S25_R342 :
    ran (place { start with iy := 0x2A02, indexMode := .iy, pc := 0x0001, r := 0x01, ticks := 4 }
      [0xFD, 0xCB, 0xFE, 0x46] [(0x2A00, 0x00)])
      (fun t => (t.main.f, t.pc, t.wz, t.r, t.ticks)) =
    some (0x7C, 0x0004, 0x2A00, 0x02, 20) := rfl

/-- Vector S26 of 95_test_vectors.md (R344). -/
theorem test_S26_R344 :
    ran (place { start with ix := 0x4000, main.b := 0x77, indexMode := .ix, pc := 0x0001, r := 0x01, ticks := 4 }
      [0xDD, 0xCB, 0x05, 0xC0] [(0x4005, 0x00)])
      (fun t => (t.main.f, t.pc, t.wz, t.r, t.ticks, Memory.read t.mem 0x4005)) =
    some (0x00, 0x0004, 0x4005, 0x02, 23, 0x01) := rfl

/-- Vector S28 of 95_test_vectors.md (R345). -/
theorem test_S28_R345 :
    ran (place { start with main.a := 0x12, main.h := 0x40, main.l := 0x00 } [0xED, 0x6F] [(0x4000, 0x34)])
      (fun t => (t.main.a, t.main.f, t.pc, t.wz, t.r, t.ticks, Memory.read t.mem 0x4000)) =
    some (0x13, 0x00, 0x0002, 0x4001, 0x02, 18, 0x42) := rfl

/-- Vector S29 of 95_test_vectors.md (R346). -/
theorem test_S29_R346 :
    ran (place { start with main.a := 0x12, main.h := 0x40, main.l := 0x00 } [0xED, 0x67] [(0x4000, 0x34)])
      (fun t => (t.main.a, t.main.f, t.pc, t.wz, t.r, t.ticks, Memory.read t.mem 0x4000)) =
    some (0x14, 0x04, 0x0002, 0x4001, 0x02, 18, 0x23) := rfl

/-- Vector B1 of 95_test_vectors.md (R365). -/
theorem test_B1_R365 :
    ran (place { start with main.h := 0x40, main.l := 0x00, main.d := 0x50, main.e := 0x00, main.b := 0x00, main.c := 0x02 }
      [0xED, 0xA0] [(0x4000, 0x0A)])
      (fun t => (t.main.f, t.bc, t.de, t.hl, t.pc, t.r, t.ticks, Memory.read t.mem 0x5000)) =
    some (0x2C, 0x0001, 0x5001, 0x4001, 0x0002, 0x02, 16, 0x0A) := rfl

/-- Vector B2 of 95_test_vectors.md (R366). -/
theorem test_B2_R366 :
    ran (place { start with main.h := 0x40, main.l := 0x00, main.d := 0x50, main.e := 0x00, main.b := 0x00, main.c := 0x01, main.f := 0xC1 }
      [0xED, 0xA8] [(0x4000, 0x22)])
      (fun t => (t.main.f, t.bc, t.de, t.hl, t.pc, t.r, t.ticks, Memory.read t.mem 0x5000)) =
    some (0xE1, 0x0000, 0x4FFF, 0x3FFF, 0x0002, 0x02, 16, 0x22) := rfl

/-- Vector B5 of 95_test_vectors.md (R369). -/
theorem test_B5_R369 :
    ran (place { start with main.a := 0x10, main.h := 0x40, main.l := 0x00, main.b := 0x00, main.c := 0x01, wz := 0x1000 }
      [0xED, 0xA1] [(0x4000, 0x10)])
      (fun t => (t.main.f, t.bc, t.hl, t.pc, t.wz, t.r, t.ticks)) =
    some (0x42, 0x0000, 0x4001, 0x0002, 0x1001, 0x02, 16) := rfl

/-- Vector B6 of 95_test_vectors.md (R370). -/
theorem test_B6_R370 :
    ran (place { start with main.a := 0x10, main.h := 0x40, main.l := 0x00, main.b := 0x00, main.c := 0x05, main.f := 0x01 }
      [0xED, 0xA9] [(0x4000, 0x21)])
      (fun t => (t.main.f, t.bc, t.hl, t.pc, t.wz, t.r, t.ticks)) =
    some (0xBF, 0x0004, 0x3FFF, 0x0002, 0xFFFF, 0x02, 16) := rfl

/-- Vector B12 of 95_test_vectors.md (R377). -/
theorem test_B12_R377 :
    ran (place { start with main.b := 0x01, main.c := 0x20, main.h := 0x40, main.l := 0xFF }
      [0xED, 0xA3] [(0x40FF, 0x01)])
      (fun t => (t.main.f, t.bc, t.hl, t.pc, t.wz, t.r, t.ticks)) =
    some (0x40, 0x0020, 0x4100, 0x0002, 0x0021, 0x02, 16) := rfl

/-- Vector B13 of 95_test_vectors.md (R378). -/
theorem test_B13_R378 :
    ran (place { start with main.b := 0x05, main.c := 0x20, main.h := 0x40, main.l := 0x00 }
      [0xED, 0xAB] [(0x4000, 0xFF)])
      (fun t => (t.main.f, t.bc, t.hl, t.pc, t.wz, t.r, t.ticks)) =
    some (0x13, 0x0420, 0x3FFF, 0x0002, 0x041F, 0x02, 16) := rfl

/-- Vector B15 of 95_test_vectors.md (R380). -/
theorem test_B15_R380 :
    ran (place { start with main.b := 0x01, main.c := 0x20, main.h := 0x40, main.l := 0x00 }
      [0xED, 0xBB] [(0x4000, 0x80)])
      (fun t => (t.main.f, t.bc, t.hl, t.pc, t.wz, t.r, t.ticks)) =
    some (0x53, 0x0020, 0x3FFF, 0x0002, 0x001F, 0x02, 16) := rfl

/-- Vector I2 of 95_test_vectors.md (R386). -/
theorem test_I2_R386 :
    ran (place { start with main.a := 0x12 } [0xD3, 0xFF] [])
      (fun t => (t.main.f, t.pc, t.wz, t.r, t.ticks)) =
    some (0x00, 0x0002, 0x1200, 0x01, 11) := rfl

/-- Vector I6 of 95_test_vectors.md (R390). -/
theorem test_I6_R390 :
    ran (place { start with main.b := 0x12, main.c := 0x34 } [0xED, 0x71] [])
      (fun t => (t.main.f, t.pc, t.wz, t.r, t.ticks)) =
    some (0x00, 0x0002, 0x1235, 0x02, 12) := rfl

/-- Vector I8 of 95_test_vectors.md (R389). -/
theorem test_I8_R389 :
    ran (place { start with main.b := 0xFF, main.c := 0xFF, main.a := 0x42 } [0xED, 0x79] [])
      (fun t => (t.main.f, t.pc, t.r, t.ticks)) =
    some (0x00, 0x0002, 0x02, 12) := rfl

/-- Vector I9 of 95_test_vectors.md (R438). -/
theorem test_I9_R438 :
    ran (place { start with main.b := 0x00, main.c := 0x01, main.h := 0x99, ix := 0x1234, indexMode := .ix, pc := 0x0001, r := 0x01, ticks := 4 }
      [0xDD, 0xED, 0x61] [])
      (fun t => (t.main.f, t.pc, t.wz, t.r, t.ticks)) =
    some (0x00, 0x0003, 0x0002, 0x03, 16) := rfl

/-- Vector J1 of 95_test_vectors.md (R400). -/
theorem test_J1_R400 :
    ran (place start [0xC3, 0x00, 0x10] [])
      (fun t => (t.main.f, t.pc, t.wz, t.r, t.ticks)) =
    some (0x00, 0x1000, 0x1000, 0x01, 10) := rfl

/-- Vector J2 of 95_test_vectors.md (R401). -/
theorem test_J2_R401 :
    ran (place { start with main.f := 0x40 } [0xC2, 0x00, 0x10] [])
      (fun t => (t.main.f, t.pc, t.wz, t.r, t.ticks)) =
    some (0x40, 0x0003, 0x1000, 0x01, 10) := rfl

/-- Vector J4 of 95_test_vectors.md (R402). -/
theorem test_J4_R402 :
    ran (place start [0x18, 0xFE] [])
      (fun t => (t.main.f, t.pc, t.r, t.ticks)) =
    some (0x00, 0x0000, 0x01, 12) := rfl

/-- Vector J5 of 95_test_vectors.md (R403). -/
theorem test_J5_R403 :
    ran (place { start with main.f := 0x00 } [0x30, 0x10] [])
      (fun t => (t.main.f, t.pc, t.wz, t.r, t.ticks)) =
    some (0x00, 0x0012, 0x0012, 0x01, 12) := rfl

/-- Vector J7 of 95_test_vectors.md (R404). -/
theorem test_J7_R404 :
    ran (place { start with main.b := 0x01 } [0x10, 0xFE] [])
      (fun t => (t.main.f, t.bc, t.pc, t.r, t.ticks)) =
    some (0x00, 0x0000, 0x0002, 0x01, 8) := rfl

/-- Vector J10 of 95_test_vectors.md (R405). -/
theorem test_J10_R405 :
    ran (place { start with main.h := 0x12, main.l := 0x34 } [0xE9] [])
      (fun t => (t.main.f, t.pc, t.wz, t.r, t.ticks)) =
    some (0x00, 0x1234, 0x1234, 0x01, 4) := rfl

/-- Vector J11 of 95_test_vectors.md (R406). -/
theorem test_J11_R406 :
    ran (place { start with iy := 0x4321, indexMode := .iy, pc := 0x0001, r := 0x01, ticks := 4 }
      [0xFD, 0xE9] [])
      (fun t => (t.main.f, t.pc, t.wz, t.r, t.ticks)) =
    some (0x00, 0x4321, 0x4321, 0x02, 8) := rfl

/-- Vector J12 of 95_test_vectors.md (R407). -/
theorem test_J12_R407 :
    ran (place start [0xCD, 0x00, 0x10] [])
      (fun t => (t.main.f, t.sp, t.pc, t.wz, t.r, t.ticks, Memory.read t.mem 0x7FFE,
      Memory.read t.mem 0x7FFF)) =
    some (0x00, 0x7FFE, 0x1000, 0x1000, 0x01, 17, 0x03, 0x00) := rfl

/-- Vector J13 of 95_test_vectors.md (R408). -/
theorem test_J13_R408 :
    ran (place { start with main.f := 0x00 } [0xCC, 0x00, 0x10] [])
      (fun t => (t.main.f, t.pc, t.wz, t.r, t.ticks)) =
    some (0x00, 0x0003, 0x1000, 0x01, 10) := rfl

/-- Vector J14 of 95_test_vectors.md (R409). -/
theorem test_J14_R409 :
    ran (place { start with sp := 0x7FFE } [0xC9] [(0x7FFE, 0x34), (0x7FFF, 0x12)])
      (fun t => (t.main.f, t.sp, t.pc, t.wz, t.r, t.ticks)) =
    some (0x00, 0x8000, 0x1234, 0x1234, 0x01, 10) := rfl

/-- Vector J15 of 95_test_vectors.md (R410). -/
theorem test_J15_R410 :
    ran (place { start with sp := 0x7FFE, main.f := 0x01 } [0xD8] [(0x7FFE, 0x34), (0x7FFF, 0x12)])
      (fun t => (t.main.f, t.sp, t.pc, t.wz, t.r, t.ticks)) =
    some (0x01, 0x8000, 0x1234, 0x1234, 0x01, 11) := rfl

/-- Vector J17 of 95_test_vectors.md (R411). -/
theorem test_J17_R411 :
    ran (place { start with sp := 0x7FFE, iff2 := true } [0xED, 0x4D] [(0x7FFE, 0x34), (0x7FFF, 0x12)])
      (fun t => (t.main.f, t.sp, t.pc, t.wz, t.r, t.iff1, t.ticks)) =
    some (0x00, 0x8000, 0x1234, 0x1234, 0x02, true, 14) := rfl

/-- Vector J18 of 95_test_vectors.md (R412). -/
theorem test_J18_R412 :
    ran (place { start with sp := 0x7FFE, iff1 := false, iff2 := true }
      [0xED, 0x45] [(0x7FFE, 0x34), (0x7FFF, 0x12)])
      (fun t => (t.main.f, t.sp, t.pc, t.wz, t.r, t.iff1, t.ticks)) =
    some (0x00, 0x8000, 0x1234, 0x1234, 0x02, true, 14) := rfl

/-- Vector J20 of 95_test_vectors.md (R413). -/
theorem test_J20_R413 :
    ran (place start [0xFF] [])
      (fun t => (t.main.f, t.sp, t.pc, t.wz, t.r, t.ticks, Memory.read t.mem 0x7FFE,
      Memory.read t.mem 0x7FFF)) =
    some (0x00, 0x7FFE, 0x0038, 0x0038, 0x01, 11, 0x01, 0x00) := rfl

/-- Vector K1 of 95_test_vectors.md (R430). -/
theorem test_K1_R430 :
    ran (place start [0x00] [])
      (fun t => (t.main.f, t.pc, t.r, t.ticks)) =
    some (0x00, 0x0001, 0x01, 4) := rfl

/-- Vector K4 of 95_test_vectors.md (R432). -/
theorem test_K4_R432 :
    ran (place { start with iff1 := true, iff2 := true } [0xF3] [])
      (fun t => (t.main.f, t.pc, t.r, t.iff1, t.iff2, t.ticks)) =
    some (0x00, 0x0001, 0x01, false, false, 4) := rfl

/-- Vector K5 of 95_test_vectors.md (R433). -/
theorem test_K5_R433 :
    ran (place start [0xFB] [])
      (fun t => (t.main.f, t.pc, t.r, t.iff1, t.iff2, t.eiPending, t.ticks)) =
    some (0x00, 0x0001, 0x01, true, true, true, 4) := rfl

/-- Vector K7 of 95_test_vectors.md (R434). -/
theorem test_K7_R434 :
    ran (place start [0xED, 0x5E] [])
      (fun t => (t.main.f, t.pc, t.r, t.im, t.ticks)) =
    some (0x00, 0x0002, 0x02, .im2, 8) := rfl

/-- Vector K10 of 95_test_vectors.md (R435). -/
theorem test_K10_R435 :
    ran (place start [0xED, 0x00] [])
      (fun t => (t.main.f, t.pc, t.r, t.ticks)) =
    some (0x00, 0x0002, 0x02, 8) := rfl

/-- Vector K16 of 95_test_vectors.md (R431). -/
theorem test_K16_R431 :
    ran (place { start with indexMode := .ix, pc := 0x0001, r := 0x01, ticks := 4 } [0xDD, 0x76] [])
      (fun t => (t.main.f, t.pc, t.r, t.halted, t.ticks)) =
    some (0x00, 0x0001, 0x02, true, 8) := rfl

end Sys2Proof.Tests
end

section
/-! PROOFS. Every instruction is a table entry's instruction (30_encoding.md rules R111 to R119) or
an IM. -/

namespace Sys2Proof
open Machine (hiByte loByte pair pair_hiByte_loByte)

/-- `decodeOp` with the bytes taken apart by a match, so that the opcode of an instruction with operand bytes
is a numeral by itself when the entry is computed. -/
def decodeBytes (m : IndexMode) (bs : List Byte) : Op :=
  match bs with
  | [] => decodeOpAt m 0 0 0 0
  | [b0] => decodeOpAt m b0 0 0 0
  | [b0, b1] => decodeOpAt m b0 b1 0 0
  | [b0, b1, b2] => decodeOpAt m b0 b1 b2 0
  | b0 :: b1 :: b2 :: b3 :: _ => decodeOpAt m b0 b1 b2 b3

theorem decodeBytes_eq_decodeOp (m : IndexMode) (bs : List Byte) : decodeBytes m bs = decodeOp m bs := by
  match bs with
  | [] | [_] | [_, _] | [_, _, _] | _ :: _ :: _ :: _ :: _ => rfl

/-- The table entry at the bytes of an instruction, a leading DD or FD read into the index mode. -/
def encodedOp (i : Instr) : Op := decodeBytes (splitPrefix (encode i)).1 (splitPrefix (encode i)).2

/-- An instruction that its own bytes decode to is a table entry's. -/
theorem exists_toInstr_of_encodedOp {i : Instr} (h : (encodedOp i).toInstr = i) : ∃ p : Op, p.toInstr = i :=
  ⟨_, h⟩

/-- The same for an instruction with a word operand, which its bytes give back as a pair. -/
theorem exists_toInstr_of_encodedOp_word {f : Word → Instr} {nn : Word}
    (h : (encodedOp (f nn)).toInstr = f (pair (hiByte nn) (loByte nn))) : ∃ p : Op, p.toInstr = f nn :=
  ⟨_, h.trans (congrArg f (pair_hiByte_loByte nn))⟩

/-- Every instruction, well formed or not, is a table entry's or an IM; an IM whose y field selects another
mode is no entry's (30_encoding.md rule R107). -/
theorem exists_toInstr_or_im (i : Instr) :
    (∃ p : Op, p.toInstr = i) ∨ ∃ y, i = .im_0 y ∨ i = .im_1 y ∨ i = .im_2 y := by
  cases i with
  | im_0 y => exact .inr ⟨y, .inl rfl⟩
  | im_1 y => exact .inr ⟨y, .inr (.inl rfl)⟩
  | im_2 y => exact .inr ⟨y, .inr (.inr rfl)⟩
  | noni op => exact .inl ⟨.ed (.noni op), rfl⟩
  | neg y => exact .inl ⟨.ed (.neg y), rfl⟩
  | retn y => exact .inl ⟨.ed (.retn y), rfl⟩
  | prefixIX_ED e => exact .inl ⟨.edUnder .ix e, rfl⟩
  | prefixIY_ED e => exact .inl ⟨.edUnder .iy e, rfl⟩
  | bit_0_atIXd d z => exact .inl ⟨.bitIdx .ix 0 z d, rfl⟩
  | bit_1_atIXd d z => exact .inl ⟨.bitIdx .ix 1 z d, rfl⟩
  | bit_2_atIXd d z => exact .inl ⟨.bitIdx .ix 2 z d, rfl⟩
  | bit_3_atIXd d z => exact .inl ⟨.bitIdx .ix 3 z d, rfl⟩
  | bit_4_atIXd d z => exact .inl ⟨.bitIdx .ix 4 z d, rfl⟩
  | bit_5_atIXd d z => exact .inl ⟨.bitIdx .ix 5 z d, rfl⟩
  | bit_6_atIXd d z => exact .inl ⟨.bitIdx .ix 6 z d, rfl⟩
  | bit_7_atIXd d z => exact .inl ⟨.bitIdx .ix 7 z d, rfl⟩
  | bit_0_atIYd d z => exact .inl ⟨.bitIdx .iy 0 z d, rfl⟩
  | bit_1_atIYd d z => exact .inl ⟨.bitIdx .iy 1 z d, rfl⟩
  | bit_2_atIYd d z => exact .inl ⟨.bitIdx .iy 2 z d, rfl⟩
  | bit_3_atIYd d z => exact .inl ⟨.bitIdx .iy 3 z d, rfl⟩
  | bit_4_atIYd d z => exact .inl ⟨.bitIdx .iy 4 z d, rfl⟩
  | bit_5_atIYd d z => exact .inl ⟨.bitIdx .iy 5 z d, rfl⟩
  | bit_6_atIYd d z => exact .inl ⟨.bitIdx .iy 6 z d, rfl⟩
  | bit_7_atIYd d z => exact .inl ⟨.bitIdx .iy 7 z d, rfl⟩
  | ld_BC_nn nn | ld_DE_nn nn | ld_HL_nn nn | ld_atNn_HL nn | ld_HL_atNn nn | ld_SP_nn nn | ld_atNn_A nn
   | ld_A_atNn nn | jp_NZ_nn nn | jp_nn nn | call_NZ_nn nn | jp_Z_nn nn | call_Z_nn nn | call_nn nn
   | jp_NC_nn nn | call_NC_nn nn | jp_C_nn nn | call_C_nn nn | jp_PO_nn nn | call_PO_nn nn | jp_PE_nn nn
   | call_PE_nn nn | jp_P_nn nn | call_P_nn nn | jp_M_nn nn | call_M_nn nn | ld_atNn_BC nn | ld_BC_atNn nn
   | ld_atNn_DE nn | ld_DE_atNn nn | ld_atNn_HL_ed nn | ld_HL_atNn_ed nn | ld_atNn_SP nn | ld_SP_atNn nn
   | ld_IX_nn nn | ld_atNn_IX nn | ld_IX_atNn nn | ld_IY_nn nn | ld_atNn_IY nn | ld_IY_atNn nn =>
    exact .inl (exists_toInstr_of_encodedOp_word rfl)
  | _ => exact .inl (exists_toInstr_of_encodedOp rfl)

end Sys2Proof
end

section
/-! PROOFS. What a table entry can do to the part of the state outside the data registers, memory, the clock
and the history (10_state.md rules R32, R36, R37, R41 to R46), and that it keeps memory canonical. -/

namespace Sys2Proof.Safety

open Sys2Proof.Machine

/-- The part of the state that data instructions leave alone: the shadow set, I, R, the interrupt state and
the inputs and parameters. -/
structure Control where
  shadow : Bank
  i : Byte
  r : Byte
  iff1 : Bool
  iff2 : Bool
  im : IntMode
  halted : Bool
  eiPending : Bool
  indexMode : IndexMode
  nmiPending : Bool
  intLine : Bool
  intData : Byte
  params : Params

/-- The control part of a state. -/
def control (s : State) : Control :=
  { shadow := s.shadow, i := s.i, r := s.r, iff1 := s.iff1, iff2 := s.iff2, im := s.im, halted := s.halted
    eiPending := s.eiPending, indexMode := s.indexMode, nmiPending := s.nmiPending, intLine := s.intLine
    intData := s.intData, params := s.params }

/-- From `s` the control part becomes `c`, and canonical memory stays canonical. -/
structure Effect (c : Control) (s t : State) : Prop where
  control_eq : control t = c
  wf : Memory.wf s.mem = true → Memory.wf t.mem = true

variable {c : Control} {s t u : State}

/-- A state with the same control part and the same memory. -/
theorem Effect.congr (h : Effect c s t) (hc : control u = control t) (hm : u.mem = t.mem) :
    Effect c s u :=
  ⟨hc.trans h.control_eq, fun hw => hm ▸ h.wf hw⟩

/-- A change of the control part that leaves memory alone. -/
theorem Effect.of_mem_eq (hc : control t = c) (hm : t.mem = s.mem) : Effect c s t :=
  ⟨hc, fun hw => hm ▸ hw⟩

/-- Nothing changes from a state to itself. -/
theorem Effect.refl (s : State) : Effect (control s) s s := .of_mem_eq rfl rfl

/-- Either branch of a conditional. -/
theorem Effect.ite {p : Prop} [Decidable p] (ht : Effect c s t) (hu : Effect c s u) :
    Effect c s (if p then t else u) := by
  split
  · exact ht
  · exact hu

section
variable (h : Effect c s t)
include h

/-! ### Updates -/

theorem Effect.tick (n : Nat) : Effect c s (t.tick n) := h.congr rfl rfl
theorem Effect.record (e : Event) : Effect c s (t.record e) := h.congr rfl rfl
theorem Effect.setWz (v : Word) : Effect c s (t.setWz v) := h.congr rfl rfl
theorem Effect.setF (v : Byte) : Effect c s (t.setF v) := h.congr rfl rfl
theorem Effect.setAF (r : Byte × Byte) : Effect c s (t.setAF r) := h.congr rfl rfl
theorem Effect.jumpTo (v : Word) : Effect c s (t.jumpTo v) := h.congr rfl rfl
theorem Effect.setSp (v : Word) : Effect c s { t with sp := v } := h.congr rfl rfl
theorem Effect.setPc (v : Word) : Effect c s { t with pc := v } := h.congr rfl rfl
theorem Effect.set8 (k : Reg8) (v : Byte) : Effect c s (t.set8 k v) := by
  cases k <;> exact h.congr rfl rfl
theorem Effect.set16 (k : Reg16) (v : Word) : Effect c s (t.set16 k v) := by
  cases k <;> exact h.congr rfl rfl
theorem Effect.setLoc (k : Loc8) (v : Byte) : Effect c s (t.setLoc k v) :=
  h.congr (by simp [control]) (by simp)
theorem Effect.writeMem (a : Word) (v : Byte) : Effect c s (t.writeMem a v) :=
  ⟨h.control_eq, fun hw => State.wf_writeMem a v (h.wf hw)⟩

/-! ### The bus and the stack -/

theorem Effect.readMem (a : Word) : Effect c s (t.readMem a).2 := h.record _
theorem Effect.readMem16 (a : Word) : Effect c s (t.readMem16 a).2 := (h.readMem _).readMem _
theorem Effect.writeMem16 (a v : Word) : Effect c s (t.writeMem16 a v) := (h.writeMem _ _).writeMem _ _
theorem Effect.ioRead (p : Word) : Effect c s (t.ioRead p).2 := h.record _
theorem Effect.ioWrite (p : Word) (v : Byte) : Effect c s (t.ioWrite p v) := h.record _
theorem Effect.push16 (v : Word) : Effect c s (t.push16 v) :=
  (((h.setSp _).writeMem _ _).setSp _).writeMem _ _
theorem Effect.pop16 : Effect c s t.pop16.2 := (((h.readMem _).setSp _).readMem _).setSp _

/-! ### Operands -/

theorem Effect.readOperand (o : MemOp) : Effect c s (t.readOperand o).2 := by
  rw [readOperand_eq]
  exact (h.setWz _).record _

theorem Effect.readSrc (o : Src8) : Effect c s (t.readSrc o).2 := by
  cases o with
  | loc k => exact h
  | mem mo => exact h.readOperand mo
  | imm n => exact h

theorem Effect.writeOperand (o : MemOp) (v : Byte) : Effect c s (t.writeOperand o v) := by
  rw [writeOperand_eq]
  exact (h.setWz _).writeMem _ _

theorem Effect.modifyOperand (o : MemOp) (g : Byte → Byte → Byte × Byte) :
    Effect c s (t.modifyOperand o g) := by
  unfold State.modifyOperand
  rw [updateOperand_eq]
  exact (((h.setWz _).record _).setF _).writeMem _ _

/-! ### Control transfers and block instructions -/

theorem Effect.enterHandler (target : Word) : Effect c s (t.enterHandler target) :=
  (h.push16 _).jumpTo _
theorem Effect.returnToCaller : Effect c s t.returnToCaller := h.pop16.jumpTo _

theorem Effect.blockIterate (fam : BlockFamily) (up : Bool) : Effect c s (t.blockIterate fam up) := by
  cases fam with
  | ld => exact (((((h.readMem _).writeMem _ _).set16 .hl _).set16 .de _).set16 .bc _).setF _
  | cp => exact ((((h.readMem _).set16 .hl _).set16 .bc _).setWz _).setF _
  | inp => exact (((((h.ioRead _).writeMem _ _).set8 .b _).set16 .hl _).setWz _).setF _
  | outp => exact (((((h.readMem _).set8 .b _).ioWrite _ _).set16 .hl _).setWz _).setF _

theorem Effect.blockRewind (fam : BlockFamily) : Effect c s (t.blockRewind fam) := by
  cases fam with
  | ld | cp => exact ((h.setPc _).setWz _).tick _
  | inp | outp => exact (h.setPc _).tick _

theorem Effect.block (fam : BlockFamily) (up rep : Bool) : Effect c s (t.block fam up rep) := by
  have hi := (h.blockIterate fam up).tick 16
  exact (hi.blockRewind fam).ite hi

theorem Effect.copyIndexed (rot : Bool) (z : Option Reg8) (v : Byte) :
    Effect c s (t.copyIndexed rot z v) := by
  cases z with
  | none => exact h
  | some k => exact (h.set8 k v).ite h

theorem Effect.modifyIndexed (m : IdxReg) (d : Byte) (rot : Bool) (z : Option Reg8)
    (g : Byte → Byte → Byte × Byte) : Effect c s (t.modifyIndexed m d rot z g) :=
  ((h.modifyOperand (.atIdx m d) g).copyIndexed rot z _).tick _

end

/-- The return from a handler copies IFF2 to IFF1 (47_control_flow.md rules R411, R412). -/
theorem Effect.returnFromHandler (s : State) :
    Effect { control s with iff1 := s.iff2 } s s.returnFromHandler := by
  have h := (Effect.refl s).returnToCaller
  exact ⟨congrArg (fun k : Control => { k with iff1 := k.iff2 }) h.control_eq, h.wf⟩

/-! ### The control part after a table entry -/

/-- The control part after a table entry, register by register: each match lists the register's writers. -/
def controlAfter (p : Op) (s : State) : Control :=
  { control s with
    shadow :=
      match p with
      | .exAf => { s.shadow with a := s.main.a, f := s.main.f }
      | .exx => { s.main with a := s.shadow.a, f := s.shadow.f }
      | _ => s.shadow
    i :=
      match p with
      | .ed .ldIA | .edUnder _ .ldIA => s.main.a
      | _ => s.i
    r :=
      match p with
      | .ed .ldRA | .edUnder _ .ldRA => s.main.a
      | _ => s.r
    iff1 :=
      match p with
      | .ei => true
      | .di => false
      | .ed e | .edUnder _ e => if edReturnsFromHandler e then s.iff2 else s.iff1
      | _ => s.iff1
    iff2 :=
      match p with
      | .ei => true
      | .di => false
      | _ => s.iff2
    im :=
      match p with
      | .ed (.im y) | .edUnder _ (.im y) => imMode y
      | _ => s.im
    halted :=
      match p with
      | .halt => true
      | _ => s.halted
    eiPending :=
      match p with
      | .ei => true
      | _ => s.eiPending
    indexMode :=
      match p with
      | .index .ix _ => .ix
      | .index .iy _ => .iy
      | _ => s.indexMode }

/-- A DD or FD byte before ED is discarded (48_cpu_control.md rule R438). -/
theorem controlAfter_edUnder (x : IdxReg) (e : EdOp) (s : State) :
    controlAfter (.edUnder x e) s = controlAfter (.ed e) s := by
  cases e <;> rfl

/-- Everything an ED entry can do to the control part and to memory's form. -/
theorem effect_runEd (e : EdOp) (s : State) : Effect (controlAfter (.ed e) s) s (runEd e s) := by
  have h := Effect.refl s
  cases e with
  | inReg k => exact ((((h.ioRead _).set8 _ _).setF _).setWz _).tick _
  | inF => exact (((h.ioRead _).setF _).setWz _).tick _
  | outReg k => exact ((h.ioWrite _ _).setWz _).tick _
  | outZero => exact ((h.ioWrite _ _).setWz _).tick _
  | sbcHL p => exact (((h.set16 .hl _).setF _).setWz _).tick _
  | adcHL p => exact (((h.set16 .hl _).setF _).setWz _).tick _
  | store p nn => exact ((h.writeMem16 _ _).setWz _).tick _
  | load p nn => exact (((h.readMem16 _).set16 _ _).setWz _).tick _
  | neg y => exact (h.setAF _).tick _
  | ldAI => exact (h.setAF _).tick _
  | ldAR => exact (h.setAF _).tick _
  | rrd => exact ((((h.readMem _).writeMem _ _).setAF _).setWz _).tick _
  | rld => exact ((((h.readMem _).writeMem _ _).setAF _).setWz _).tick _
  | block fam up rep => exact h.block _ _ _
  | noni op => exact h.tick _
  | reti => exact ((Effect.returnFromHandler s).record _).tick _
  | retn y => exact (Effect.returnFromHandler s).tick _
  | im y | ldIA | ldRA => exact .of_mem_eq rfl rfl

/-- Everything a table entry can do to the control part and to memory's form. -/
theorem effect_runOp (p : Op) (s : State) : Effect (controlAfter p s) s (runOp p s) := by
  have h := Effect.refl s
  cases p with
  | ld m y z => exact ((h.readSrc _).setLoc _ _).tick _
  | ldImm m y n => exact ((h.readSrc _).setLoc _ _).tick _
  | ldFrom o y => exact ((h.readSrc _).setLoc _ _).tick _
  | ldTo o z => exact (h.writeOperand _ _).tick _
  | ldToImm o n => exact (h.writeOperand _ _).tick _
  | ldAFromBC | ldAFromDE | ldAFromNn nn => exact (((h.readMem _).set8 .a _).setWz _).tick _
  | ldAToBC | ldAToDE | ldAToNn nn => exact ((h.writeMem _ _).setWz _).tick _
  | ld16Imm m p nn => exact (h.set16 _ _).tick _
  | ld16From m nn => exact (((h.readMem16 _).set16 _ _).setWz _).tick _
  | ld16To m nn => exact ((h.writeMem16 _ _).setWz _).tick _
  | ldSp m => exact (h.set16 .sp _).tick _
  | push m p => exact (h.push16 _).tick _
  | pop m p => exact (h.pop16.set16 _ _).tick _
  | exDeHl => exact ((h.set16 .de _).set16 .hl _).tick _
  | exSp m =>
    exact ((((((h.readMem _).readMem _).writeMem _ _).writeMem _ _).set16 _ _).setWz _).tick _
  | aluReg m a z => exact ((h.readSrc _).setAF _).tick _
  | aluMem a o => exact ((h.readSrc _).setAF _).tick _
  | aluImm a n => exact ((h.readSrc _).setAF _).tick _
  | incReg m y => exact ((h.setLoc _ _).setF _).tick _
  | decReg m y => exact ((h.setLoc _ _).setF _).tick _
  | incMem o => exact (h.modifyOperand _ _).tick _
  | decMem o => exact (h.modifyOperand _ _).tick _
  | daa | cpl => exact (h.setAF _).tick _
  | scf | ccf => exact (h.setF _).tick _
  | add16 m p => exact (((h.set16 _ _).setF _).setWz _).tick _
  | inc16 m p => exact (h.set16 _ _).tick _
  | dec16 m p => exact (h.set16 _ _).tick _
  | rlca | rrca | rla | rra => exact (h.setAF _).tick _
  | rotReg k z => exact ((h.set8 _ _).setF _).tick _
  | rotHL k => exact (h.modifyOperand _ _).tick _
  | rotIdx m k z d => exact h.modifyIndexed _ _ _ _ _
  | bitReg b z => exact (h.setF _).tick _
  | bitHL b => exact ((h.readMem _).setF _).tick _
  | bitIdx m b z d => exact (((h.setWz _).readMem _).setF _).tick _
  | resReg b z => exact (h.set8 _ _).tick _
  | setReg b z => exact (h.set8 _ _).tick _
  | resHL b => exact (h.modifyOperand _ _).tick _
  | setHL b => exact (h.modifyOperand _ _).tick _
  | resIdx m b z d => exact h.modifyIndexed _ _ _ _ _
  | setIdx m b z d => exact h.modifyIndexed _ _ _ _ _
  | inA n => exact (((h.ioRead _).set8 .a _).setWz _).tick _
  | outA n => exact ((h.ioWrite _ _).setWz _).tick _
  | jp nn => exact (h.jumpTo _).tick _
  | jpCc k nn => exact ((h.jumpTo _).ite (h.setWz _)).tick _
  | jr e => exact (h.jumpTo _).tick _
  | jrCc k e => exact ((h.jumpTo _).tick _).ite (h.tick _)
  | djnz e => exact (((h.set8 .b _).jumpTo _).tick _).ite ((h.set8 .b _).tick _)
  | jpReg m => exact (h.jumpTo _).tick _
  | call nn => exact ((h.push16 _).jumpTo _).tick _
  | callCc k nn => exact (((h.push16 _).jumpTo _).tick _).ite ((h.setWz _).tick _)
  | ret => exact h.returnToCaller.tick _
  | retCc k => exact (h.returnToCaller.tick _).ite (h.tick _)
  | rst y => exact (h.enterHandler _).tick _
  | nop => exact h.tick _
  | index x m => cases x <;> exact .of_mem_eq rfl rfl
  | ed e => exact effect_runEd e s
  | edUnder x e =>
    rw [controlAfter_edUnder]
    exact effect_runEd e s
  | exAf | exx | halt | di | ei => exact .of_mem_eq rfl rfl

/-! ### `runOp` register by register -/

theorem runOp_shadow (p : Op) (s : State) : (runOp p s).shadow = (controlAfter p s).shadow :=
  congrArg Control.shadow (effect_runOp p s).control_eq
theorem runOp_i (p : Op) (s : State) : (runOp p s).i = (controlAfter p s).i :=
  congrArg Control.i (effect_runOp p s).control_eq
theorem runOp_r (p : Op) (s : State) : (runOp p s).r = (controlAfter p s).r :=
  congrArg Control.r (effect_runOp p s).control_eq
theorem runOp_im (p : Op) (s : State) : (runOp p s).im = (controlAfter p s).im :=
  congrArg Control.im (effect_runOp p s).control_eq
theorem runOp_iff1 (p : Op) (s : State) : (runOp p s).iff1 = (controlAfter p s).iff1 :=
  congrArg Control.iff1 (effect_runOp p s).control_eq
theorem runOp_iff2 (p : Op) (s : State) : (runOp p s).iff2 = (controlAfter p s).iff2 :=
  congrArg Control.iff2 (effect_runOp p s).control_eq
theorem runOp_halted (p : Op) (s : State) : (runOp p s).halted = (controlAfter p s).halted :=
  congrArg Control.halted (effect_runOp p s).control_eq
theorem runOp_eiPending (p : Op) (s : State) : (runOp p s).eiPending = (controlAfter p s).eiPending :=
  congrArg Control.eiPending (effect_runOp p s).control_eq
theorem runOp_indexMode (p : Op) (s : State) : (runOp p s).indexMode = (controlAfter p s).indexMode :=
  congrArg Control.indexMode (effect_runOp p s).control_eq
@[simp] theorem runOp_nmiPending (p : Op) (s : State) : (runOp p s).nmiPending = s.nmiPending :=
  congrArg Control.nmiPending (effect_runOp p s).control_eq
@[simp] theorem runOp_intLine (p : Op) (s : State) : (runOp p s).intLine = s.intLine :=
  congrArg Control.intLine (effect_runOp p s).control_eq
@[simp] theorem runOp_intData (p : Op) (s : State) : (runOp p s).intData = s.intData :=
  congrArg Control.intData (effect_runOp p s).control_eq
@[simp] theorem runOp_params (p : Op) (s : State) : (runOp p s).params = s.params :=
  congrArg Control.params (effect_runOp p s).control_eq

/-! ### Each register of the control part unless a writer runs -/

variable {p : Op}

theorem runOp_shadow_af (s : State) (h : p ≠ .exAf) :
    (runOp p s).shadow.a = s.shadow.a ∧ (runOp p s).shadow.f = s.shadow.f := by
  rw [runOp_shadow]
  cases p with
  | exAf => exact absurd rfl h
  | _ => exact ⟨rfl, rfl⟩

theorem runOp_shadow_exx (s : State) (h : p ≠ .exx) :
    (runOp p s).shadow.b = s.shadow.b ∧ (runOp p s).shadow.c = s.shadow.c ∧
      (runOp p s).shadow.d = s.shadow.d ∧ (runOp p s).shadow.e = s.shadow.e ∧
      (runOp p s).shadow.h = s.shadow.h ∧ (runOp p s).shadow.l = s.shadow.l := by
  rw [runOp_shadow]
  cases p with
  | exx => exact absurd rfl h
  | _ => exact ⟨rfl, rfl, rfl, rfl, rfl, rfl⟩

theorem runOp_im_eq (s : State) (h : ∀ y, p ≠ .ed (.im y)) (hx : ∀ x y, p ≠ .edUnder x (.im y)) :
    (runOp p s).im = s.im := by
  rw [runOp_im]
  unfold controlAfter
  dsimp only
  split
  · exact absurd rfl (h _)
  · exact absurd rfl (hx _ _)
  · rfl

theorem runOp_i_eq (s : State) (h : p ≠ .ed .ldIA) (hx : ∀ x, p ≠ .edUnder x .ldIA) :
    (runOp p s).i = s.i := by
  rw [runOp_i]
  unfold controlAfter
  dsimp only
  split
  · exact absurd rfl h
  · exact absurd rfl (hx _)
  · rfl

theorem runOp_r_eq (s : State) (h : p ≠ .ed .ldRA) (hx : ∀ x, p ≠ .edUnder x .ldRA) :
    (runOp p s).r = s.r := by
  rw [runOp_r]
  unfold controlAfter
  dsimp only
  split
  · exact absurd rfl h
  · exact absurd rfl (hx _)
  · rfl

theorem runOp_iff_eq (s : State) (he : p ≠ .ei) (hd : p ≠ .di) :
    (runOp p s).iff2 = s.iff2 ∧
      (runOp p s).iff1 = if returnsFromHandler p.toInstr then s.iff2 else s.iff1 := by
  rw [runOp_iff1, runOp_iff2, returnsFromHandler_toInstr]
  cases p with
  | ei => exact absurd rfl he
  | di => exact absurd rfl hd
  | _ => exact ⟨rfl, rfl⟩

theorem runOp_eiPending_eq (s : State) (h : p ≠ .ei) : (runOp p s).eiPending = s.eiPending := by
  rw [runOp_eiPending]
  cases p with
  | ei => exact absurd rfl h
  | _ => rfl

theorem runOp_halted_eq (s : State) (h : p ≠ .halt) : (runOp p s).halted = s.halted := by
  rw [runOp_halted]
  cases p with
  | halt => exact absurd rfl h
  | _ => rfl

end Sys2Proof.Safety
end

section
/-! PROOFS. Who writes the control registers and the interrupt state. -/

namespace Sys2Proof.Safety

open Sys2Proof.Machine

/-- Settles O19, by the control part after each table entry. -/
theorem controlRegistersHaveOwnWriters : Obligations.ControlRegistersHaveOwnWriters := by
  intro p s t h
  obtain rfl : runOp p s = t := Host.Outcome.next.inj ((exec_toInstr p s).symm.trans h)
  exact ⟨runOp_shadow_af s, runOp_shadow_exx s, runOp_im_eq s, runOp_i_eq s, runOp_r_eq s⟩

/-- Settles O20: an instruction is a table entry's, whose control part is known, or an IM, which writes IM. -/
theorem instructionsLeaveInterruptStateAlone : Obligations.InstructionsLeaveInterruptStateAlone := by
  intro i s t h
  rcases exists_toInstr_or_im i with ⟨p, rfl⟩ | ⟨y, rfl | rfl | rfl⟩
  · obtain rfl : runOp p s = t := Host.Outcome.next.inj ((exec_toInstr p s).symm.trans h)
    refine ⟨runOp_nmiPending p s, runOp_intLine p s, runOp_intData p s, runOp_params p s, fun he hd => ?_,
      fun he => ?_, fun hh => ?_⟩
    · exact runOp_iff_eq s (fun hp => he (hp ▸ rfl)) (fun hp => hd (hp ▸ rfl))
    · exact runOp_eiPending_eq s fun hp => he (hp ▸ rfl)
    · exact runOp_halted_eq s fun hp => hh (hp ▸ rfl)
  all_goals
    obtain rfl := Host.Outcome.next.inj h
    exact ⟨rfl, rfl, rfl, rfl, fun _ _ => ⟨rfl, rfl⟩, fun _ => rfl, fun _ => rfl⟩

end Sys2Proof.Safety
end

section
/-! PROOFS. Every step keeps the invariant: HALT is decoded from 0x76 alone, the fetch changes nothing the
invariant speaks of but the EI shadow, and each kind of step keeps its four clauses. -/

namespace Sys2Proof.Safety

open Sys2Proof.Machine

/-! ### Decoding HALT, DD and FD -/

theorem decodeOpAt_halt (m : IndexMode) (b1 b2 b3 : Byte) : decodeOpAt m 0x76 b1 b2 b3 = .halt := rfl

/-- A DD or FD byte decodes to a step that sets the index mode (48_cpu_control.md rule R436). -/
theorem decodeOpAt_prefix {op : Byte} (h : isPrefix op = true) (m : IndexMode) (b1 b2 b3 : Byte) :
    ∃ x, decodeOpAt m op b1 b2 b3 = .index x m := by
  simp only [isPrefix, Bool.or_eq_true, beq_iff_eq] at h
  rcases h with rfl | rfl
  · exact ⟨.ix, rfl⟩
  · exact ⟨.iy, rfl⟩

theorem decodeMain0_ne_halt (m : IndexMode) (op : Byte) (o : MemOp) (b1 n : Byte) (nn : Word) :
    decodeMain0 m op o b1 n nn ≠ .halt := by
  unfold decodeMain0 pick8
  dsimp only
  repeat' split
  all_goals nofun

/-- HALT is the entry with y = z = 6 (30_encoding.md rule R112). -/
theorem decodeMain1_ne_halt {op : Byte} (h : op ≠ 0x76) (hx : opX op = 1) (m : IndexMode) (o : MemOp) :
    decodeMain1 m op o ≠ .halt := by
  have hyz : ¬ (opZ op = 6 ∧ opY op = 6) := fun ⟨hz, hy⟩ => h <| by
    unfold opX at hx; unfold opZ at hz; unfold opY at hy
    bv_omega
  unfold decodeMain1
  dsimp only
  split
  case isTrue hz => rw [if_neg fun hy => hyz ⟨hz, hy⟩]; nofun
  case isFalse => split <;> nofun

theorem decodeMain2_ne_halt (m : IndexMode) (op : Byte) (o : MemOp) : decodeMain2 m op o ≠ .halt := by
  unfold decodeMain2
  dsimp only
  split <;> nofun

theorem decodePrefixedCB_ne_halt (m : IndexMode) (b1 b2 : Byte) : decodePrefixedCB m b1 b2 ≠ .halt := by
  unfold decodePrefixedCB decodeCB decodeXCB
  dsimp only
  repeat' split
  all_goals nofun

theorem edUnder_ne_halt (m : IndexMode) (e : EdOp) : edUnder m e ≠ .halt := by
  unfold edUnder
  split <;> nofun

theorem decodeMain3_ne_halt (m : IndexMode) (op b1 b2 b3 : Byte) : decodeMain3 m op b1 b2 b3 ≠ .halt := by
  have hcb := decodePrefixedCB_ne_halt m b1 b2
  have hed := edUnder_ne_halt m (decodeED b1 (pair b3 b2))
  unfold decodeMain3
  dsimp only
  repeat' split
  all_goals first | exact hcb | exact hed | nofun

/-- Only 0x76 decodes to HALT. -/
theorem decodeOpAt_ne_halt {op : Byte} (h : op ≠ 0x76) (m : IndexMode) (b1 b2 b3 : Byte) :
    decodeOpAt m op b1 b2 b3 ≠ .halt := by
  unfold decodeOpAt
  split
  case h_1 => exact decodeMain0_ne_halt _ _ _ _ _ _
  case h_2 hx => exact decodeMain1_ne_halt h hx _ _
  case h_3 => exact decodeMain2_ne_halt _ _ _
  case h_4 => exact decodeMain3_ne_halt _ _ _ _ _

/-! ### The fetch -/

/-- The fetched bytes begin with the opcode. -/
theorem decodeOp_fetchBytes (s : State) :
    ∃ b1 b2 b3, decodeOp s.indexMode s.fetchBytes.1 = decodeOpAt s.indexMode s.fetchOpcode.1 b1 b2 b3 := by
  unfold State.fetchBytes
  dsimp only
  split
  · exact ⟨_, _, _, rfl⟩
  · split <;> exact ⟨_, _, _, rfl⟩

/-- Operand fetches move PC and add to the history. -/
theorem fetchOperands_updates (n : Nat) (s : State) :
    ∃ pc history, (s.fetchOperands n).2 = { s with pc := pc, history := history } := by
  induction n generalizing s with
  | zero => exact ⟨s.pc, s.history, rfl⟩
  | succ n ih =>
    obtain ⟨pc, history, h⟩ := ih s.fetchByte.2
    exact ⟨pc, history, h⟩

/-- The fetch of a step moves PC and R and adds to the history. -/
theorem fetchBytes_updates (s : State) :
    ∃ pc r history, s.fetchBytes.2 = { s with pc := pc, r := r, history := history } := by
  unfold State.fetchBytes
  dsimp only
  split
  · obtain ⟨pc, history, h⟩ := fetchOperands_updates (edOperandCount s.fetchOpcode.2.fetchOpcode.1)
      s.fetchOpcode.2.fetchOpcode.2
    exact ⟨pc, _, history, h⟩
  · split
    · exact ⟨_, _, _, rfl⟩
    · obtain ⟨pc, history, h⟩ := fetchOperands_updates (operandCount s.indexMode s.fetchOpcode.1)
        s.fetchOpcode.2
      exact ⟨pc, _, history, h⟩

/-- HALT is fetched alone under every index mode. -/
theorem fetchBytes_halt {s : State} (h : s.fetchOpcode.1 = 0x76) : s.fetchBytes.2 = s.fetchOpcode.2 := by
  have hn : operandCount s.indexMode 0x76#8 = 0 := by cases s.indexMode <;> rfl
  simp [State.fetchBytes, h, hn, State.fetchOperands]

/-- The fetch of a step leaves memory, the flip-flops, `halted` and the parameters alone. -/
theorem fetched_keeps (s : State) :
    s.fetched.mem = s.mem ∧ s.fetched.iff1 = s.iff1 ∧ s.fetched.iff2 = s.iff2 ∧
      s.fetched.halted = s.halted ∧ s.fetched.params = s.params := by
  obtain ⟨pc, r, history, h⟩ := fetchBytes_updates s
  unfold State.fetched State.startInstr
  rw [h]
  split <;> exact ⟨rfl, rfl, rfl, rfl, rfl⟩

/-- An EI shadow in the execute part was pending before the fetch, and the opcode is DD or FD
(30_encoding.md rule R118). -/
theorem eiPending_of_fetched {s : State} (h : s.fetched.eiPending = true) :
    isPrefix s.fetchOpcode.1 = true ∧ s.eiPending = true := by
  obtain ⟨pc, r, history, hf⟩ := fetchBytes_updates s
  unfold State.fetched State.startInstr at h
  rw [hf] at h
  split at h
  next hp => exact ⟨hp, h⟩
  next => exact absurd h Bool.false_ne_true

/-- The state in which HALT executes. -/
theorem fetched_halt {s : State} (h : s.fetchOpcode.1 = 0x76) :
    s.fetched = { s.fetchOpcode.2 with eiPending := false, indexMode := .hl } := by
  unfold State.fetched
  rw [fetchBytes_halt h, h]
  rfl

/-! ### The invariant -/

/-- The invariant of a core that has just accepted an interrupt, through any entry into the handler
(60_exceptions.md rule R511). -/
theorem Inv.of_accepted {u t : State} (h : Effect (control u) u t) (hm : Memory.wf u.mem = true)
    (hi : u.iff1 = false) (he : u.eiPending = false) (hh : u.halted = false) : Inv t := by
  have ti : t.iff1 = false := (congrArg Control.iff1 h.control_eq).trans hi
  have te : t.eiPending = false := (congrArg Control.eiPending h.control_eq).trans he
  have th : t.halted = false := (congrArg Control.halted h.control_eq).trans hh
  exact ⟨h.wf hm, by simp [ti], by simp [te], by simp [th]⟩

/-- IFF1 only with IFF2 is kept by every entry: RETI and RETN copy IFF2 (10_state.md rule R41). -/
theorem runOp_enabled (p : Op) {s : State} (h : s.iff1 = true → s.iff2 = true) :
    (runOp p s).iff1 = true → (runOp p s).iff2 = true := by
  rw [runOp_iff1, runOp_iff2]
  cases p with
  | ei => exact fun _ => rfl
  | di => exact id
  | ed e | edUnder _ e =>
    show (if edReturnsFromHandler e then s.iff2 else s.iff1) = true → s.iff2 = true
    split
    · exact id
    · exact h
  | _ => exact h

/-- The EI shadow after an entry: EI begins it with interrupts enabled, and DD and FD keep it. -/
theorem runOp_eiShadow {p : Op} {s : State}
    (h : s.eiPending = true → s.iff1 = true ∧ ∃ x m, p = .index x m) :
    (runOp p s).eiPending = true → (runOp p s).iff1 = true := by
  rw [runOp_iff1]
  intro ht
  by_cases hp : p = .ei
  · subst hp; rfl
  · rw [runOp_eiPending_eq s hp] at ht
    obtain ⟨hi, x, m, rfl⟩ := h ht
    exact hi

/-- The invariant after an entry, its clause on a halted core being given: the other clauses follow from what
holds before, an EI shadow then standing before DD or FD alone. -/
theorem inv_runOp {p : Op} {s : State} (hm : Memory.wf s.mem = true) (hi : s.iff1 = true → s.iff2 = true)
    (he : s.eiPending = true → s.iff1 = true ∧ ∃ x m, p = .index x m)
    (hh : (runOp p s).halted = true → (runOp p s).params.busModel = .ram →
      (runOp p s).indexMode = .hl ∧ byteAt (runOp p s) (runOp p s).pc = 0x76) : Inv (runOp p s) :=
  ⟨(effect_runOp p s).wf hm, runOp_enabled p hi, runOp_eiShadow he, hh⟩

/-- HALT leaves the core at a boundary on its own byte (48_cpu_control.md rule R431). -/
theorem runOp_halt_boundary {s : State} (hop : s.fetchOpcode.1 = 0x76) (hb : s.params.busModel = .ram) :
    (runOp .halt s.fetched).indexMode = .hl ∧
      byteAt (runOp .halt s.fetched) (runOp .halt s.fetched).pc = 0x76 := by
  rw [fetched_halt hop]
  refine ⟨rfl, ?_⟩
  have hpc : s.pc + 1 - 1 = s.pc := by bv_omega
  show byteAt s (s.pc + 1 - 1) = 0x76
  rw [hpc, ← busByte_ram hb]
  exact hop

/-- Decoding and executing keeps the invariant: only the byte 0x76 halts the core, and a halted core stands
on it. -/
theorem inv_runInstruction {s : State} (h : Inv s) :
    Inv (runOp (decodeOp s.indexMode s.fetchBytes.1) s.fetched) := by
  obtain ⟨b1, b2, b3, hp⟩ := decodeOp_fetchBytes s
  obtain ⟨hmem, hiff1, hiff2, hhalted, hparams⟩ := fetched_keeps s
  rw [hp]
  refine inv_runOp (hmem ▸ h.memory) (hiff1 ▸ hiff2 ▸ h.enabled) (fun he => ?_) fun hh hb => ?_
  · obtain ⟨hpre, hei⟩ := eiPending_of_fetched he
    obtain ⟨x, hx⟩ := decodeOpAt_prefix hpre s.indexMode b1 b2 b3
    exact ⟨hiff1 ▸ h.shadow hei, x, _, hx⟩
  · rw [runOp_params, hparams] at hb
    by_cases hop : s.fetchOpcode.1 = 0x76
    · rw [hop, decodeOpAt_halt]
      exact runOp_halt_boundary hop hb
    · rw [runOp_halted_eq _ (decodeOpAt_ne_halt hop _ _ _ _), hhalted] at hh
      exact absurd ((busByte_ram hb s.pc).trans (h.halt hh hb).2) hop

/-- An NMI acceptance keeps the invariant (60_exceptions.md rule R506). -/
theorem inv_acceptNmi {s : State} (h : Inv s) : Inv s.acceptNmi :=
  .of_accepted (((Effect.refl _).enterHandler _).tick _) h.memory rfl rfl rfl

/-- Mode 0 executes the data byte with interrupts off and the core running; the byte is not HALT
(60_exceptions.md rule R508). -/
theorem inv_acceptIm0 {s : State} (h : Inv s) {v : Byte} (hv : singleByte v = true) :
    Inv (runOp (decodeOp .hl [v]) ((s.acknowledgeInt v).tick 2)) := by
  have hne : v ≠ 0x76 := by rintro rfl; exact absurd hv (by decide)
  have hp : decodeOp .hl [v] ≠ .halt := decodeOpAt_ne_halt hne _ _ _ _
  refine inv_runOp h.memory (fun hi => absurd hi Bool.false_ne_true)
    (fun he => absurd he Bool.false_ne_true) fun hh _ => ?_
  rw [runOp_halted_eq _ hp] at hh
  exact absurd hh Bool.false_ne_true

/-- A maskable acceptance keeps the invariant in every mode (60_exceptions.md rules R507 to R510). -/
theorem inv_acceptIntOp {s t : State} (h : Inv s) {v : Byte} (ht : s.acceptIntOp v = .next t) : Inv t := by
  unfold State.acceptIntOp at ht
  cases hm : s.im <;> simp only [hm] at ht
  case im0 =>
    split at ht
    case isTrue hv => exact Host.Outcome.next.inj ht ▸ inv_acceptIm0 h hv
    case isFalse => nomatch ht
  case im1 =>
    obtain rfl := Host.Outcome.next.inj ht
    exact .of_accepted (((Effect.refl _).enterHandler _).tick _) h.memory rfl rfl rfl
  case im2 =>
    obtain rfl := Host.Outcome.next.inj ht
    exact .of_accepted (((((Effect.refl _).push16 _).readMem16 _).jumpTo _).tick _) h.memory rfl rfl rfl

/-- Settles O8, by the case of the step: an NMI acceptance, a maskable acceptance or an instruction. -/
theorem stepKeepsInvariant : Obligations.StepKeepsInvariant := by
  intro s t h ht
  rw [step, runStep_eq_op, State.runStepOp] at ht
  split at ht
  · exact Host.Outcome.next.inj ht ▸ inv_acceptNmi h
  · split at ht
    · exact inv_acceptIntOp h ht
    · exact Host.Outcome.next.inj ht ▸ inv_runInstruction h

end Sys2Proof.Safety
end

section
/-! PROOFS. Memory answers what was written, and its canonical form is unique (20_memory.md rules R70, R72). -/

namespace Sys2Proof.Machine

/-- What the canonical form says of a list with a first cell. -/
theorem Memory.wfFrom_cons_iff {lo k : Nat} {v : Byte} {rest : Memory} :
    Memory.wfFrom lo ((k, v) :: rest) = true ↔
      lo ≤ k ∧ k < 65536 ∧ v ≠ Memory.unlisted ∧ Memory.wfFrom (k + 1) rest = true := by
  simp [Memory.wfFrom, and_assoc]

@[simp] theorem Memory.read_cons_self (k : Nat) (v : Byte) (rest : Memory) :
    Memory.read ((k, v) :: rest) k = v := if_pos rfl

theorem Memory.read_cons_ne {k a : Nat} (v : Byte) (rest : Memory) (h : k ≠ a) :
    Memory.read ((k, v) :: rest) a = Memory.read rest a := if_neg h

/-- A listed byte differs from what an unlisted address reads as, so canonical memory with the same byte there
has its lower bound at or below that address. -/
theorem Memory.le_of_read_eq {lo lo' k : Nat} {v : Byte} {rest n : Memory}
    (hm : Memory.wfFrom lo ((k, v) :: rest) = true) (hn : Memory.wfFrom lo' n = true)
    (h : Memory.read ((k, v) :: rest) k = Memory.read n k) : lo' ≤ k := by
  obtain ⟨-, -, hv, -⟩ := Memory.wfFrom_cons_iff.mp hm
  by_contra hk
  rw [Memory.read_cons_self, Memory.read_of_wfFrom_lt hn (by omega)] at h
  exact hv h

/-- A canonical list bounds itself below by its first address. -/
theorem Memory.wfFrom_head {lo k : Nat} {v : Byte} {rest : Memory}
    (h : Memory.wfFrom lo ((k, v) :: rest) = true) : Memory.wfFrom k ((k, v) :: rest) = true := by
  obtain ⟨-, hk⟩ := Memory.wfFrom_cons_iff.mp h
  exact Memory.wfFrom_cons_iff.mpr ⟨le_rfl, hk⟩

/-- Canonical lists behind one first cell read alike when the whole lists do. -/
theorem Memory.read_tail_eq {k : Nat} {v : Byte} {m n : Memory} (hm : Memory.wfFrom (k + 1) m = true)
    (hn : Memory.wfFrom (k + 1) n = true)
    (h : ∀ a, Memory.read ((k, v) :: m) a = Memory.read ((k, v) :: n) a) (a : Nat) :
    Memory.read m a = Memory.read n a := by
  by_cases ha : a = k
  · rw [Memory.read_of_wfFrom_lt hm (by omega), Memory.read_of_wfFrom_lt hn (by omega)]
  · have hne : k ≠ a := Ne.symm ha
    rw [← Memory.read_cons_ne v m hne, ← Memory.read_cons_ne v n hne]
    exact h a

/-- Canonical lists with equal contents are equal: neither first address can lie below the other. -/
theorem Memory.ext_of_wfFrom {lo lo' : Nat} {m n : Memory} (hm : Memory.wfFrom lo m = true)
    (hn : Memory.wfFrom lo' n = true) (h : ∀ a, Memory.read m a = Memory.read n a) : m = n := by
  induction m generalizing lo lo' n with
  | nil =>
    cases n with
    | nil => rfl
    | cons c n => exact absurd (Memory.le_of_read_eq (lo' := c.1 + 1) hn rfl (h c.1).symm) (by omega)
  | cons b m ih =>
    obtain ⟨k, v⟩ := b
    cases n with
    | nil => exact absurd (Memory.le_of_read_eq (lo' := k + 1) hm rfl (h k)) (by omega)
    | cons c n =>
      obtain ⟨l, w⟩ := c
      obtain rfl : k = l := Nat.le_antisymm
        (Memory.le_of_read_eq hn (Memory.wfFrom_head hm) (h l).symm)
        (Memory.le_of_read_eq hm (Memory.wfFrom_head hn) (h k))
      obtain rfl : v = w := by simpa using h k
      obtain ⟨-, -, -, hm'⟩ := Memory.wfFrom_cons_iff.mp hm
      obtain ⟨-, -, -, hn'⟩ := Memory.wfFrom_cons_iff.mp hn
      rw [ih hm' hn' (Memory.read_tail_eq hm' hn' h)]

end Sys2Proof.Machine

namespace Sys2Proof.Safety

open Sys2Proof.Machine

/-- A store changes the byte at no other address (20_memory.md rule R72). -/
theorem byteAt_writeMem_ne {s : State} {a b : Word} (v : Byte) (h : b ≠ a) :
    byteAt (s.writeMem a v) b = byteAt s b :=
  Memory.read_write_ne _ _ fun he => h (BitVec.eq_of_toNat_eq he)

/-- Settles O23: under `BUS_MODEL = ram` the bus answers what memory holds, and canonical lists are
extensional. -/
theorem memoryReadsWhatWasWritten : Obligations.MemoryReadsWhatWasWritten := by
  refine ⟨fun s a v hm hb => ?_, fun m n => Memory.ext_of_wfFrom⟩
  have hb' : (s.writeMem a v).params.busModel = .ram := hb
  refine ⟨?_, State.wf_writeMem a v hm, fun b hne => ?_⟩
  · rw [busByte_ram hb']
    exact byteAt_writeMem_self a v hm
  · rw [busByte_ram hb', busByte_ram hb]
    exact byteAt_writeMem_ne v hne

end Sys2Proof.Safety
end

section
/-! PROOFS. What a table entry adds to the event history and to the clock (20_memory.md rule R86,
60_exceptions.md rule R520, 70_reset_and_hazards.md rules R608, R609). -/

namespace Sys2Proof.Safety

open Sys2Proof.Machine

/-- From `s` to `t` events are added to the history, `k` RETI pulses among them, and `d` T-states pass. -/
structure Advance (k d : Nat) (s t : State) : Prop where
  history : ∃ new, t.history = new ++ s.history ∧ new.count Event.signalReti = k
  ticks : t.ticks = s.ticks + d

variable {k d d' : Nat} {s t u : State}

/-- A state with the same history and clock. -/
theorem Advance.congr (h : Advance k d s t) (hh : u.history = t.history) (ht : u.ticks = t.ticks) :
    Advance k d s u :=
  ⟨hh ▸ h.history, ht.trans h.ticks⟩

/-- No time passes from a state to itself. -/
theorem Advance.refl (s : State) : Advance 0 0 s s := ⟨⟨[], rfl, rfl⟩, rfl⟩

/-- The T-states counted another way. -/
theorem Advance.ticks_eq (h : Advance k d s t) (hd : d = d') : Advance k d' s t := hd ▸ h

/-- Either branch of a conditional, each with its own T-states. -/
theorem Advance.ite_ticks {p : Prop} [Decidable p] (ht : Advance k d s t) (hu : Advance k d' s u) :
    Advance k (if p then d else d') s (if p then t else u) := by
  split
  · exact ht
  · exact hu

/-- Either branch of a conditional, with the same T-states. -/
theorem Advance.ite {p : Prop} [Decidable p] (ht : Advance k d s t) (hu : Advance k d s u) :
    Advance k d s (if p then t else u) :=
  (ht.ite_ticks hu).ticks_eq (ite_self d)

/-- The RETI pulse (60_exceptions.md rule R520). -/
theorem Advance.signalReti (h : Advance k d s t) : Advance (k + 1) d s (t.record .signalReti) := by
  obtain ⟨new, hh, hk⟩ := h.history
  exact ⟨⟨.signalReti :: new, congrArg _ hh, by rw [List.count_cons_self, hk]⟩, h.ticks⟩

section
variable (h : Advance k d s t)
include h

/-! ### Updates -/

/-- An event other than the RETI pulse. -/
theorem Advance.record {e : Event} (he : e ≠ .signalReti) : Advance k d s (t.record e) := by
  obtain ⟨new, hh, hk⟩ := h.history
  exact ⟨⟨e :: new, congrArg _ hh, by rw [List.count_cons_of_ne he, hk]⟩, h.ticks⟩

theorem Advance.tick (n : Nat) : Advance k (d + n) s (t.tick n) :=
  ⟨h.history, by rw [State.tick_ticks, h.ticks, Nat.add_assoc]⟩

theorem Advance.setWz (v : Word) : Advance k d s (t.setWz v) := h.congr rfl rfl
theorem Advance.setF (v : Byte) : Advance k d s (t.setF v) := h.congr rfl rfl
theorem Advance.setAF (r : Byte × Byte) : Advance k d s (t.setAF r) := h.congr rfl rfl
theorem Advance.jumpTo (v : Word) : Advance k d s (t.jumpTo v) := h.congr rfl rfl
theorem Advance.setSp (v : Word) : Advance k d s { t with sp := v } := h.congr rfl rfl
theorem Advance.setPc (v : Word) : Advance k d s { t with pc := v } := h.congr rfl rfl
theorem Advance.set8 (r : Reg8) (v : Byte) : Advance k d s (t.set8 r v) := h.congr (by simp) (by simp)
theorem Advance.set16 (r : Reg16) (v : Word) : Advance k d s (t.set16 r v) := h.congr (by simp) (by simp)
theorem Advance.setLoc (r : Loc8) (v : Byte) : Advance k d s (t.setLoc r v) := h.congr (by simp) (by simp)

/-! ### The bus and the stack -/

theorem Advance.writeMem (a : Word) (v : Byte) : Advance k d s (t.writeMem a v) :=
  (h.record (e := .write a v) nofun).congr rfl rfl
theorem Advance.readMem (a : Word) : Advance k d s (t.readMem a).2 := h.record nofun
theorem Advance.readMem16 (a : Word) : Advance k d s (t.readMem16 a).2 := (h.readMem _).readMem _
theorem Advance.writeMem16 (a v : Word) : Advance k d s (t.writeMem16 a v) :=
  (h.writeMem _ _).writeMem _ _
theorem Advance.ioRead (p : Word) : Advance k d s (t.ioRead p).2 := h.record nofun
theorem Advance.ioWrite (p : Word) (v : Byte) : Advance k d s (t.ioWrite p v) := h.record nofun
theorem Advance.push16 (v : Word) : Advance k d s (t.push16 v) :=
  (((h.setSp _).writeMem _ _).setSp _).writeMem _ _
theorem Advance.pop16 : Advance k d s t.pop16.2 := (((h.readMem _).setSp _).readMem _).setSp _

/-! ### Operands -/

theorem Advance.readOperand (o : MemOp) : Advance k d s (t.readOperand o).2 := by
  rw [readOperand_eq]
  exact (h.setWz _).record nofun

theorem Advance.readSrc (o : Src8) : Advance k d s (t.readSrc o).2 := by
  cases o with
  | loc r => exact h
  | mem mo => exact h.readOperand mo
  | imm n => exact h

theorem Advance.writeOperand (o : MemOp) (v : Byte) : Advance k d s (t.writeOperand o v) := by
  rw [writeOperand_eq]
  exact (h.setWz _).writeMem _ _

theorem Advance.modifyOperand (o : MemOp) (g : Byte → Byte → Byte × Byte) :
    Advance k d s (t.modifyOperand o g) := by
  unfold State.modifyOperand
  rw [updateOperand_eq]
  exact (((h.setWz _).record (e := .read _ _) nofun).setF _).writeMem _ _

theorem Advance.copyIndexed (rot : Bool) (z : Option Reg8) (v : Byte) :
    Advance k d s (t.copyIndexed rot z v) := by
  cases z with
  | none => exact h
  | some r => exact (h.set8 r v).ite h

theorem Advance.modifyIndexed (m : IdxReg) (b : Byte) (rot : Bool) (z : Option Reg8)
    (g : Byte → Byte → Byte × Byte) : Advance k (d + 19) s (t.modifyIndexed m b rot z g) :=
  ((h.modifyOperand (.atIdx m b) g).copyIndexed rot z _).tick _

/-! ### Control transfers and block instructions -/

theorem Advance.enterHandler (target : Word) : Advance k d s (t.enterHandler target) :=
  (h.push16 _).jumpTo _
theorem Advance.returnToCaller : Advance k d s t.returnToCaller := h.pop16.jumpTo _
theorem Advance.returnFromHandler : Advance k d s t.returnFromHandler :=
  h.returnToCaller.congr rfl rfl

theorem Advance.blockIterate (fam : BlockFamily) (up : Bool) : Advance k d s (t.blockIterate fam up) := by
  cases fam with
  | ld => exact (((((h.readMem _).writeMem _ _).set16 .hl _).set16 .de _).set16 .bc _).setF _
  | cp => exact ((((h.readMem _).set16 .hl _).set16 .bc _).setWz _).setF _
  | inp => exact (((((h.ioRead _).writeMem _ _).set8 .b _).set16 .hl _).setWz _).setF _
  | outp => exact (((((h.readMem _).set8 .b _).ioWrite _ _).set16 .hl _).setWz _).setF _

theorem Advance.blockRewind (fam : BlockFamily) : Advance k (d + 5) s (t.blockRewind fam) := by
  cases fam with
  | ld | cp => exact ((h.setPc _).setWz _).tick 5
  | inp | outp => exact (h.setPc _).tick 5

end

/-! ### The repeat condition in terms of the state before the iteration (45_block.md rule R364) -/

/-- Whether a repeating block instruction goes on from here: its counter is not at its last iteration and,
for a compare, A does not match. -/
def blockRepeats (fam : BlockFamily) (s : State) : Bool :=
  match fam with
  | .ld => s.bc != 1
  | .cp => s.bc != 1 && s.main.a != s.busByte s.hl
  | .inp | .outp => s.main.b != 1

/-- A counter reaches zero exactly from 1. -/
theorem sub_one_bne_zero {w : Nat} (v : BitVec w) : (v - 1 != 0) = (v != 1) := by
  have hz : v - 1 = 0 ↔ v = 1 := sub_eq_zero
  rw [Bool.eq_iff_iff, bne_iff_ne, bne_iff_ne, Ne, Ne, hz]

/-- The repeat condition, read after the iteration, from the state before it. -/
theorem blockContinues_iterate (fam : BlockFamily) (up : Bool) (s : State) :
    (s.blockIterate fam up).blockContinues fam = blockRepeats fam s := by
  cases fam with
  | ld =>
    obtain ⟨-, -, -, hbc, -⟩ := ldxIterate_eq s up
    rw [State.blockContinues, hbc]
    exact sub_one_bne_zero _
  | cp =>
    obtain ⟨-, hbc, hf, -⟩ := cpxIterate_eq s up
    have hz := congrArg FlagBits.z (cpxFlags_eq s.main.a (s.busByte s.hl) s.main.f (s.bc - 1))
    change flagZ _ = _ at hz
    simp only [State.blockContinues, hbc, hf, hz, sub_one_bne_zero]
    rfl
  | inp =>
    obtain ⟨-, hb, -⟩ := inxIterate_eq s up
    rw [State.blockContinues, hb]
    exact sub_one_bne_zero _
  | outp =>
    obtain ⟨hb, -⟩ := outxIterate_eq s up
    rw [State.blockContinues, hb]
    exact sub_one_bne_zero _

/-- A block instruction takes 16 T-states, and 5 more to repeat (70_reset_and_hazards.md rule R609). -/
theorem tStatesEd_block (fam : BlockFamily) (up rep : Bool) (s : State) :
    tStatesEd (.block fam up rep) s = if (rep && blockRepeats fam s) = true then 21 else 16 := by
  cases rep with
  | false => cases fam <;> rfl
  | true => cases fam <;> simp [tStatesEd, blockRepeats, ← not_or, ite_not]

/-- What a block instruction adds to the history and the clock. -/
theorem advance_block (fam : BlockFamily) (up rep : Bool) (s : State) :
    Advance 0 (tStatesEd (.block fam up rep) s) s (s.block fam up rep) := by
  have hi := ((Advance.refl s).blockIterate fam up).tick 16
  rw [tStatesEd_block, ← blockContinues_iterate fam up s]
  split
  next hc =>
    rw [block_again hc]
    exact hi.blockRewind fam
  next hc =>
    rw [block_ends (Bool.not_eq_true _ ▸ hc)]
    exact hi

/-! ### Table entries -/

/-- The RETI pulses of an ED entry. -/
def retiPulsesEd (e : EdOp) : Nat :=
  match e with
  | .reti => 1
  | _ => 0

/-- The RETI pulses of a table entry, RETI behind a discarded DD or FD included (48_cpu_control.md rule R438). -/
def retiPulses (p : Op) : Nat :=
  match p with
  | .ed e | .edUnder _ e => retiPulsesEd e
  | _ => 0

/-- What an ED entry adds to the history and the clock. -/
theorem advance_runEd (e : EdOp) (s : State) : Advance (retiPulsesEd e) (tStatesEd e s) s (runEd e s) := by
  have h := Advance.refl s
  cases e with
  | inReg r => exact ((((h.ioRead _).set8 _ _).setF _).setWz _).tick 12
  | inF => exact (((h.ioRead _).setF _).setWz _).tick 12
  | outReg r => exact ((h.ioWrite _ _).setWz _).tick 12
  | outZero => exact ((h.ioWrite _ _).setWz _).tick 12
  | sbcHL p => exact (((h.set16 .hl _).setF _).setWz _).tick 15
  | adcHL p => exact (((h.set16 .hl _).setF _).setWz _).tick 15
  | store p nn => exact ((h.writeMem16 _ _).setWz _).tick 20
  | load p nn => exact (((h.readMem16 _).set16 _ _).setWz _).tick 20
  | neg y => exact (h.setAF _).tick 8
  | ldAI | ldAR => exact (h.setAF _).tick 9
  | rrd | rld => exact ((((h.readMem _).writeMem _ _).setAF _).setWz _).tick 18
  | block fam up rep => exact advance_block fam up rep s
  | noni op => exact h.tick 8
  | reti => exact h.returnFromHandler.signalReti.tick 14
  | retn y => exact h.returnFromHandler.tick 14
  | im y => exact (h.tick 8).congr rfl rfl
  | ldIA | ldRA => exact (h.tick 9).congr rfl rfl

/-- What a table entry adds to the history and the clock. -/
theorem advance_runOp (p : Op) (s : State) : Advance (retiPulses p) (tStates p s) s (runOp p s) := by
  have h := Advance.refl s
  cases p with
  | ld m y z => exact ((h.readSrc _).setLoc _ _).tick 4
  | ldImm m y n => exact ((h.readSrc _).setLoc _ _).tick 7
  | ldFrom o y => exact (((h.readSrc _).setLoc _ _).tick _).ticks_eq (by cases o <;> rfl)
  | ldTo o z => exact ((h.writeOperand _ _).tick _).ticks_eq (by cases o <;> rfl)
  | ldToImm o n => exact ((h.writeOperand _ _).tick _).ticks_eq (by cases o <;> rfl)
  | ldAFromBC | ldAFromDE => exact (((h.readMem _).set8 .a _).setWz _).tick 7
  | ldAFromNn nn => exact (((h.readMem _).set8 .a _).setWz _).tick 13
  | ldAToBC | ldAToDE => exact ((h.writeMem _ _).setWz _).tick 7
  | ldAToNn nn => exact ((h.writeMem _ _).setWz _).tick 13
  | ld16Imm m p nn => exact (h.set16 _ _).tick 10
  | ld16From m nn => exact (((h.readMem16 _).set16 _ _).setWz _).tick 16
  | ld16To m nn => exact ((h.writeMem16 _ _).setWz _).tick 16
  | ldSp m => exact (h.set16 .sp _).tick 6
  | push m p => exact (h.push16 _).tick 11
  | pop m p => exact (h.pop16.set16 _ _).tick 10
  | exDeHl => exact ((h.set16 .de _).set16 .hl _).tick 4
  | exSp m =>
    exact ((((((h.readMem _).readMem _).writeMem _ _).writeMem _ _).set16 _ _).setWz _).tick 19
  | aluReg m a z => exact ((h.readSrc _).setAF _).tick 4
  | aluMem a o => exact (((h.readSrc _).setAF _).tick _).ticks_eq (by cases o <;> rfl)
  | aluImm a n => exact ((h.readSrc _).setAF _).tick 7
  | incReg m y | decReg m y => exact ((h.setLoc _ _).setF _).tick 4
  | incMem o | decMem o => exact ((h.modifyOperand _ _).tick _).ticks_eq (by cases o <;> rfl)
  | daa | cpl | rlca | rrca | rla | rra => exact (h.setAF _).tick 4
  | scf | ccf => exact (h.setF _).tick 4
  | add16 m p => exact (((h.set16 _ _).setF _).setWz _).tick 11
  | inc16 m p | dec16 m p => exact (h.set16 _ _).tick 6
  | rotReg r z => exact ((h.set8 _ _).setF _).tick 8
  | rotHL r | resHL b | setHL b => exact (h.modifyOperand _ _).tick 15
  | rotIdx m r z b => exact h.modifyIndexed _ _ _ _ _
  | resIdx m b z e | setIdx m b z e => exact h.modifyIndexed _ _ _ _ _
  | bitReg b z => exact (h.setF _).tick 8
  | bitHL b => exact ((h.readMem _).setF _).tick 12
  | bitIdx m b z e => exact (((h.setWz _).readMem _).setF _).tick 16
  | resReg b z | setReg b z => exact (h.set8 _ _).tick 8
  | inA n => exact (((h.ioRead _).set8 .a _).setWz _).tick 11
  | outA n => exact ((h.ioWrite _ _).setWz _).tick 11
  | jp nn => exact (h.jumpTo _).tick 10
  | jpCc cc nn => exact ((h.jumpTo _).ite (h.setWz _)).tick 10
  | jr e => exact (h.jumpTo _).tick 12
  | jrCc cc e => exact ((h.jumpTo _).tick 12).ite_ticks (h.tick 7)
  | djnz e =>
    refine (((h.set8 .b _).jumpTo _).tick 13).ite_ticks ((h.set8 .b _).tick 8) |>.ticks_eq ?_
    change (if s.main.b - 1 ≠ 0 then 13 else 8) = if s.main.b = 1 then 8 else 13
    simp only [ne_eq, ite_not, sub_eq_zero]
  | jpReg m => exact (h.jumpTo _).tick 4
  | call nn => exact ((h.push16 _).jumpTo _).tick 17
  | callCc cc nn => exact (((h.push16 _).jumpTo _).tick 17).ite_ticks ((h.setWz _).tick 10)
  | ret => exact h.returnToCaller.tick 10
  | retCc cc => exact (h.returnToCaller.tick 11).ite_ticks (h.tick 5)
  | rst y => exact (h.enterHandler _).tick 11
  | nop => exact h.tick 4
  | index x m => cases x <;> exact (h.tick 4).congr rfl rfl
  | exAf | exx | halt | di | ei => exact (h.tick 4).congr rfl rfl
  | ed e => exact advance_runEd e s
  | edUnder x e => exact advance_runEd e s

/-- Every ED entry takes time. -/
theorem tStatesEd_pos (e : EdOp) (s : State) : 0 < tStatesEd e s := by
  unfold tStatesEd
  repeat' split
  all_goals decide

/-- Every table entry takes time. -/
theorem tStates_pos (p : Op) (s : State) : 0 < tStates p s := by
  cases p with
  | ed e | edUnder _ e => exact tStatesEd_pos e s
  | ldFrom o _ | ldTo o _ | ldToImm o _ | aluMem _ o | incMem o | decMem o => cases o <;> exact Nat.succ_pos _
  | jrCc _ _ | djnz _ | callCc _ _ | retCc _ =>
    simp only [tStates]
    split <;> exact Nat.succ_pos _
  | _ => exact Nat.succ_pos _

/-- RETI alone pulses, plain or behind a discarded DD or FD (60_exceptions.md rule R520). -/
theorem retiPulses_eq (p : Op) :
    retiPulses p = if p ∈ [Op.ed .reti, .edUnder .ix .reti, .edUnder .iy .reti] then 1 else 0 := by
  cases p with
  | ed e => cases e <;> simp [retiPulses, retiPulsesEd]
  | edUnder x e => cases x <;> cases e <;> simp [retiPulses, retiPulsesEd]
  | _ => simp [retiPulses]

/-- Settles O21, by what each table entry adds to the history and the clock. -/
theorem historyGrowsAndRetiPulses : Obligations.HistoryGrowsAndRetiPulses := by
  intro p s t ht
  obtain rfl : runOp p s = t := Host.Outcome.next.inj ((exec_toInstr p s).symm.trans ht)
  obtain ⟨⟨new, hnew, hcount⟩, hticks⟩ := advance_runOp p s
  exact ⟨new, hnew, hticks ▸ Nat.lt_add_of_pos_right (tStates_pos p s), hcount.trans (retiPulses_eq p)⟩

end Sys2Proof.Safety
end

section
/-! PROOFS. The decoder looks at no byte past the instruction, and the bytes of every well-formed instruction,
a leading DD or FD read into the index mode, decode to it (30_encoding.md rules R109 to R119, R122). -/

namespace Sys2Proof

open Machine (hiByte loByte pair pair_hiByte_loByte)

/-! ### The bytes the decoder looks at -/

/-- The length of the instruction at the front of `bs`, the bytes taken apart by a match as in `decodeBytes`. -/
def lengthAt (m : IndexMode) (bs : List Byte) : Nat :=
  match bs with
  | [] => instrLength m 0 0
  | [b0] => instrLength m b0 0
  | b0 :: b1 :: _ => instrLength m b0 b1

theorem lengthAt_eq_instrLength (m : IndexMode) (bs : List Byte) :
    lengthAt m bs = instrLength m (bs.getD 0 0) (bs.getD 1 0) := by
  match bs with
  | [] | [_] | _ :: _ :: _ => rfl

theorem instrLength_ed (m : IndexMode) (b1 : Byte) : instrLength m 0xED b1 = 2 + edOperandCount b1 := rfl

theorem edOperandCount_eq_or (op : Byte) : edOperandCount op = 0 ∨ edOperandCount op = 2 := by
  unfold edOperandCount
  split
  · exact .inr rfl
  · exact .inl rfl

theorem immediateCount_le (op : Byte) : immediateCount op ≤ 2 := by
  unfold immediateCount
  dsimp only
  repeat' split
  all_goals decide

theorem operandCount_le (m : IndexMode) (op : Byte) : operandCount m op ≤ 3 := by
  have h := immediateCount_le op
  unfold operandCount
  repeat' split
  all_goals omega

/-- Every instruction has one to four bytes, a leading DD or FD not counted (30_encoding.md rule R122). -/
theorem instrLength_bounds (m : IndexMode) (op b1 : Byte) :
    1 ≤ instrLength m op b1 ∧ instrLength m op b1 ≤ 4 := by
  have h := operandCount_le m op
  have hed := edOperandCount_eq_or b1
  unfold instrLength
  repeat' split
  all_goals omega

/-- Operand bytes past the instruction's length may be replaced by zeros. -/
theorem decodeOpAt_of_length {m : IndexMode} {op b1 : Byte} {n : Nat} (hn : instrLength m op b1 = n)
    (b2 b3 : Byte) :
    decodeOpAt m op (if 1 < n then b1 else 0) (if 2 < n then b2 else 0) (if 3 < n then b3 else 0) =
      decodeOpAt m op b1 b2 b3 := by
  by_cases hop : op = 0xED
  · subst hop
    rw [instrLength_ed] at hn
    have decodesED : ∀ b1 b2 b3, decodeOpAt m 0xED b1 b2 b3 = edUnder m (decodeED b1 (pair b3 b2)) :=
      fun _ _ _ => rfl
    rcases edOperandCount_eq_or b1 with h | h
    · obtain rfl : n = 2 := by omega
      show decodeOpAt m 0xED b1 0 0 = _
      rw [decodesED, decodesED, decodeED_eq b1 _ h, decodeED_eq b1 (pair b3 b2) h]
    · obtain rfl : n = 4 := by omega
      rfl
  · have hpos := (instrLength_bounds m op b1).1
    rw [instrLength_eq m op b1 hop] at hn hpos
    rw [decodeOpAt_eq m op b1 b2 b3 hop, decodeOpAt_eq m op (ite _ _ _) _ _ hop]
    generalize instrLength m op 0 = k at hn hpos
    subst hn
    match k with
    | 0 => omega
    | 1 | 2 | _ + 3 => simp

/-- A byte list cut at the end of its first instruction has the same table entry at its front. -/
theorem decodeOp_take (m : IndexMode) (bs : List Byte) :
    decodeOp m (bs.take (lengthAt m bs)) = decodeOp m bs := by
  have hpos : 0 < lengthAt m bs := by
    rw [lengthAt_eq_instrLength]
    exact (instrLength_bounds _ _ _).1
  have hget : ∀ k, (bs.take (lengthAt m bs)).getD k 0 = if k < lengthAt m bs then bs.getD k 0 else 0 := by
    intro k
    simp only [List.getD_eq_getElem?_getD, List.getElem?_take]
    split <;> rfl
  unfold decodeOp
  rw [hget, hget, hget, hget, if_pos hpos]
  exact decodeOpAt_of_length (lengthAt_eq_instrLength m bs).symm _ _

/-- Decoding bytes that hold a whole instruction. -/
theorem decode_eq {m : IndexMode} {bs : List Byte} (h : lengthAt m bs ≤ bs.length) :
    decode m bs = .ok (decodeFetched m (bs.take (lengthAt m bs)), bs.drop (lengthAt m bs)) := by
  unfold decodeFetched
  rw [decodeOp_take, decode, ← lengthAt_eq_instrLength]
  exact if_neg (Nat.not_lt.mpr h)

/-- The length of an instruction does not depend on the bytes after it. -/
theorem lengthAt_append {m : IndexMode} {bs : List Byte} (h : lengthAt m bs = bs.length) (rest : List Byte) :
    lengthAt m (bs ++ rest) = bs.length := by
  match bs, rest with
  | [], _ =>
    have hpos : 1 ≤ lengthAt m [] := (instrLength_bounds m 0 0).1
    exact absurd (hpos.trans_eq h) (by decide)
  | [_], [] => exact h
  | [b0], b1 :: rest =>
    have hne : b0 ≠ 0xED := by
      rintro rfl
      have htwo : 2 ≤ lengthAt m [0xED] := Nat.le_add_right 2 _
      exact absurd (htwo.trans_eq h) (by decide)
    exact (instrLength_eq m b0 b1 hne).trans h
  | _ :: _ :: _, _ => exact h

/-! ### Reading an instruction's own bytes -/

/-- Under index mode `m` the bytes `bs` are the whole of instruction `i`. -/
structure ReadsAs (m : IndexMode) (bs : List Byte) (i : Instr) : Prop where
  length : lengthAt m bs = bs.length
  instr : (decodeBytes m bs).toInstr = i

theorem ReadsAs.decode_append {m : IndexMode} {bs : List Byte} {i : Instr} (h : ReadsAs m bs i)
    (rest : List Byte) : decode m (bs ++ rest) = .ok (i, rest) := by
  have hlen := lengthAt_append h.length rest
  rw [decode_eq (hlen.trans_le (by simp)), hlen, List.take_left, List.drop_left, decodeFetched,
    ← decodeBytes_eq_decodeOp, h.instr]

/-! ### The ED table (30_encoding.md rule R116) -/

/-- An operation byte outside the ED table's filled slots is its own no-op entry (48_cpu_control.md rule
R435). -/
theorem decodeED_noni {op : Byte} (h : isNoniSlot op = true) (nn : Word) : decodeED op nn = .noni op := by
  have hy : opY op < 8 := Nat.mod_lt _ (by decide)
  have hslot : ((opX op = 0 ∨ opX op = 3) ∨ (opX op = 1 ∧ opZ op = 7) ∧ 6 ≤ opY op) ∨
      opX op = 2 ∧ (opY op < 4 ∨ 3 < opZ op) := by
    simpa [isNoniSlot, opX, opY, opZ] using h
  unfold decodeED
  rcases hslot with ((hx | hx) | ⟨⟨hx, hz⟩, hy6⟩) | ⟨hx, hyz⟩
  · simp [hx]
  · simp [hx]
  · have hy67 : opY op = 6 ∨ opY op = 7 := by omega
    rcases hy67 with hy' | hy' <;> simp [hx, hz, hy']
  · simp only [hx]
    exact if_neg (by omega)

theorem instrLength_noni (m : IndexMode) {op : Byte} (h : isNoniSlot op = true) : instrLength m 0xED op = 2 := by
  have hz : ¬ (opX op = 1 ∧ opZ op = 3) := by
    rintro ⟨hx, hz⟩
    have hslot : isNoniSlot op = false := by
      unfold opX at hx; unfold opZ at hz
      simp [isNoniSlot, hx, hz]
    exact absurd h (by simp [hslot])
  rw [instrLength_ed, edOperandCount, if_neg hz]

/-- The bytes of a well-formed ED entry are read as it under every index mode. -/
theorem readsAs_encodeED (m : IndexMode) {e : EdOp} (h : e.wellFormed = true) :
    ReadsAs m (encodeED e) (edUnder m e).toInstr := by
  cases e with
  | inReg k | outReg k => cases k <;> exact ⟨rfl, rfl⟩
  | sbcHL p | adcHL p => cases p <;> exact ⟨rfl, rfl⟩
  | store p nn =>
    have hnn := congrArg (fun w => (edUnder m (.store p w)).toInstr) (pair_hiByte_loByte nn)
    cases p <;> exact ⟨rfl, hnn⟩
  | load p nn =>
    have hnn := congrArg (fun w => (edUnder m (.load p w)).toInstr) (pair_hiByte_loByte nn)
    cases p <;> exact ⟨rfl, hnn⟩
  | neg y | im y => fin_cases y <;> exact ⟨rfl, rfl⟩
  | retn y =>
    match y, h with
    | 1, h => exact absurd h Bool.false_ne_true
    | 0, _ | 2, _ | 3, _ | 4, _ | 5, _ | 6, _ | 7, _ => exact ⟨rfl, rfl⟩
  | block fam up rep => cases fam <;> cases up <;> cases rep <;> exact ⟨rfl, rfl⟩
  | noni op =>
    exact ⟨instrLength_noni m h, congrArg (fun e => (edUnder m e).toInstr) (decodeED_noni h _)⟩
  | _ => exact ⟨rfl, rfl⟩

/-- Every ED entry's bytes begin with ED. -/
theorem encodeED_eq_cons (e : EdOp) : ∃ op rest, encodeED e = 0xED :: op :: rest := by
  cases e with
  | block fam up rep => cases fam <;> exact ⟨_, _, rfl⟩
  | _ => exact ⟨_, _, rfl⟩

theorem encode_edInstr (e : EdOp) : encode (edInstr e) = encodeED e := by
  cases e with
  | inReg k | outReg k => cases k <;> rfl
  | sbcHL p | adcHL p | store p nn | load p nn => cases p <;> rfl
  | im y => fin_cases y <;> rfl
  | block fam up rep => cases fam <;> cases up <;> cases rep <;> rfl
  | _ => rfl

/-! ### Round trips -/

/-- A well-formed instruction whose own bytes, a leading DD or FD read into the index mode, are read as it. -/
structure RoundTrips (i : Instr) : Prop where
  wellFormed : i.wellFormed = true
  reads : ReadsAs (splitPrefix (encode i)).1 (splitPrefix (encode i)).2 i

theorem RoundTrips.of_split {i : Instr} {m : IndexMode} {bs : List Byte} (hw : i.wellFormed = true)
    (hs : splitPrefix (encode i) = (m, bs)) (h : ReadsAs m bs i) : RoundTrips i :=
  ⟨hw, by rw [hs]; exact h⟩

/-- An instruction with a word operand, which its bytes give back as a pair. -/
theorem RoundTrips.of_word {f : Word → Op} {nn : Word} {m : IndexMode} {bs : List Byte}
    (hw : (f nn).toInstr.wellFormed = true) (hs : splitPrefix (encode (f nn).toInstr) = (m, bs))
    (hl : lengthAt m bs = bs.length)
    (hi : (decodeBytes m bs).toInstr = (f (pair (hiByte nn) (loByte nn))).toInstr) :
    RoundTrips (f nn).toInstr :=
  .of_split hw hs ⟨hl, hi.trans (congrArg (fun w => (f w).toInstr) (pair_hiByte_loByte nn))⟩

theorem roundTrips_ed {e : EdOp} (h : e.wellFormed = true) : RoundTrips (Op.ed e).toInstr := by
  obtain ⟨op, rest, hb⟩ := encodeED_eq_cons e
  have hs : splitPrefix (encode (edInstr e)) = (.hl, encodeED e) := by rw [encode_edInstr, hb]; rfl
  exact .of_split (edInstr_wellFormed e h) hs (readsAs_encodeED .hl h)

theorem roundTrips_edUnder (x : IdxReg) {e : EdOp} (h : e.wellFormed = true) :
    RoundTrips (Op.edUnder x e).toInstr := by
  obtain ⟨op, rest, hb⟩ := encodeED_eq_cons e
  cases x with
  | ix =>
    have hs : splitPrefix (0xDD :: encodeED e) = (.ix, encodeED e) := by rw [hb]; rfl
    exact .of_split h hs (readsAs_encodeED .ix h)
  | iy =>
    have hs : splitPrefix (0xFD :: encodeED e) = (.iy, encodeED e) := by rw [hb]; rfl
    exact .of_split h hs (readsAs_encodeED .iy h)

/-! ### The indexed CB forms (30_encoding.md rule R119) -/

theorem roundTrips_rotIdx (m : IdxReg) (k : RotOp) (z : Option Reg8) (d : Byte) :
    RoundTrips (Op.rotIdx m k z d).toInstr := by
  cases m <;> cases k <;> rcases z with _ | ⟨⟨⟩⟩ <;> exact .of_split rfl rfl ⟨rfl, rfl⟩

theorem roundTrips_bitIdx (m : IdxReg) (b z : Fin 8) (d : Byte) : RoundTrips (Op.bitIdx m b z d).toInstr := by
  cases m <;> fin_cases b <;> fin_cases z <;> exact .of_split rfl rfl ⟨rfl, rfl⟩

theorem roundTrips_resIdx (m : IdxReg) (b : Fin 8) (z : Option Reg8) (d : Byte) :
    RoundTrips (Op.resIdx m b z d).toInstr := by
  cases m <;> fin_cases b <;> rcases z with _ | ⟨⟨⟩⟩ <;> exact .of_split rfl rfl ⟨rfl, rfl⟩

theorem roundTrips_setIdx (m : IdxReg) (b : Fin 8) (z : Option Reg8) (d : Byte) :
    RoundTrips (Op.setIdx m b z d).toInstr := by
  cases m <;> fin_cases b <;> rcases z with _ | ⟨⟨⟩⟩ <;> exact .of_split rfl rfl ⟨rfl, rfl⟩

/-! ### Every table -/

theorem roundTrips_aluReg (m : IndexMode) (a : AluOp) (z : Reg8) : RoundTrips (Op.aluReg m a z).toInstr := by
  cases m <;> cases a <;> cases z <;> exact .of_split rfl rfl ⟨rfl, rfl⟩

/-- The fields of an entry name a slot of its own: only an ED entry has a field to check. -/
def Op.wellFormed (p : Op) : Bool :=
  match p with
  | .ed e | .edUnder _ e => e.wellFormed
  | _ => true

/-- The instruction of every well-formed table entry is read from its own bytes. -/
theorem roundTrips_toInstr (p : Op) (h : p.wellFormed = true) : RoundTrips p.toInstr := by
  cases p with
  | ld m y z => cases m <;> cases y <;> cases z <;> exact .of_split rfl rfl ⟨rfl, rfl⟩
  | aluReg m a z => exact roundTrips_aluReg m a z
  | rotIdx m k z d => exact roundTrips_rotIdx m k z d
  | bitIdx m b z d => exact roundTrips_bitIdx m b z d
  | resIdx m b z d => exact roundTrips_resIdx m b z d
  | setIdx m b z d => exact roundTrips_setIdx m b z d
  | ed e => exact roundTrips_ed h
  | edUnder x e => exact roundTrips_edUnder x h
  | ldImm m y n | incReg m y | decReg m y => cases m <;> cases y <;> exact .of_split rfl rfl ⟨rfl, rfl⟩
  | ldFrom o y | ldTo o y => rcases o with _ | ⟨⟨⟩, d⟩ <;> cases y <;> exact .of_split rfl rfl ⟨rfl, rfl⟩
  | aluMem a o => rcases o with _ | ⟨⟨⟩, d⟩ <;> cases a <;> exact .of_split rfl rfl ⟨rfl, rfl⟩
  | ldToImm o n | incMem o | decMem o => rcases o with _ | ⟨⟨⟩, d⟩ <;> exact .of_split rfl rfl ⟨rfl, rfl⟩
  | ldAFromNn nn | ldAToNn nn | jp nn | call nn => exact .of_word rfl rfl rfl rfl
  | ld16Imm m p nn => cases m <;> cases p <;> exact .of_word rfl rfl rfl rfl
  | ld16From m nn | ld16To m nn => cases m <;> exact .of_word rfl rfl rfl rfl
  | jpCc k nn | callCc k nn => cases k <;> exact .of_word rfl rfl rfl rfl
  | push m p | pop m p | add16 m p | inc16 m p | dec16 m p =>
    cases m <;> cases p <;> exact .of_split rfl rfl ⟨rfl, rfl⟩
  | ldSp m | exSp m | jpReg m => cases m <;> exact .of_split rfl rfl ⟨rfl, rfl⟩
  | rotReg k z => cases k <;> cases z <;> exact .of_split rfl rfl ⟨rfl, rfl⟩
  | aluImm k n | rotHL k | retCc k => cases k <;> exact .of_split rfl rfl ⟨rfl, rfl⟩
  | bitReg b z | resReg b z | setReg b z => fin_cases b <;> cases z <;> exact .of_split rfl rfl ⟨rfl, rfl⟩
  | bitHL b | resHL b | setHL b | rst b => fin_cases b <;> exact .of_split rfl rfl ⟨rfl, rfl⟩
  | jrCc k e => fin_cases k <;> exact .of_split rfl rfl ⟨rfl, rfl⟩
  | index x m => cases x <;> cases m <;> exact .of_split rfl rfl ⟨rfl, rfl⟩
  | _ => exact .of_split rfl rfl ⟨rfl, rfl⟩

theorem wellFormed_of_edInstr {e : EdOp} (h : (edInstr e).wellFormed = true) : e.wellFormed = true := by
  cases e with
  | retn y | noni op => exact h
  | _ => rfl

/-- Table `im` (30_encoding.md rule R107). -/
theorem toInstr_im (y : Fin 8) :
    (Op.ed (.im y)).toInstr =
      match imOfField y with
      | 1 => .im_1 y
      | 2 => .im_2 y
      | _ => .im_0 y := by
  fin_cases y <;> rfl

/-- A well-formed instruction is a well-formed entry's. -/
theorem exists_wellFormed_toInstr {i : Instr} (h : i.wellFormed = true) :
    ∃ p : Op, p.wellFormed = true ∧ p.toInstr = i := by
  rcases exists_toInstr_or_im i with ⟨p, rfl⟩ | ⟨y, rfl | rfl | rfl⟩
  · refine ⟨p, ?_, rfl⟩
    cases p with
    | ed e => exact wellFormed_of_edInstr h
    | edUnder x e => cases x <;> exact h
    | _ => rfl
  all_goals
    have hy : imOfField y = _ := eq_of_beq h
    exact ⟨.ed (.im y), rfl, by simp [toInstr_im, hy]⟩

end Sys2Proof

namespace Sys2Proof.Safety

/-- Settles O5, by the well-formed entry of each instruction. -/
theorem everyInstructionIsATableEntry : Obligations.EveryInstructionIsATableEntry := by
  intro i h
  obtain ⟨p, -, hp⟩ := exists_wellFormed_toInstr h
  exact ⟨p, hp⟩

/-- Settles O1: an instruction is a well-formed table entry's, and each of these is read from its own bytes. -/
theorem decodeEncodeRoundTrip : Obligations.DecodeEncodeRoundTrip := by
  intro i rest h
  obtain ⟨p, hp, rfl⟩ := exists_wellFormed_toInstr h
  exact (roundTrips_toInstr p hp).reads.decode_append rest

end Sys2Proof.Safety
end

section
/-! PROOFS. No encoding is illegal, and the length of an instruction from its first bytes (30_encoding.md rules
R117, R122, R123). -/

namespace Sys2Proof

/-! ### Decoded entries are well formed -/

theorem decodePrefixedCB_wellFormed (m : IndexMode) (b1 b2 : Byte) :
    (decodePrefixedCB m b1 b2).wellFormed = true := by
  unfold decodePrefixedCB decodeCB decodeXCB
  dsimp only
  repeat' split
  all_goals rfl

theorem edUnder_wellFormed (m : IndexMode) {e : EdOp} (h : e.wellFormed = true) :
    (edUnder m e).wellFormed = true := by
  cases m <;> exact h

theorem decodeMain0_wellFormed (m : IndexMode) (op : Byte) (o : MemOp) (b1 n : Byte) (nn : Word) :
    (decodeMain0 m op o b1 n nn).wellFormed = true := by
  unfold decodeMain0 pick8
  dsimp only
  repeat' split
  all_goals rfl

theorem decodeMain1_wellFormed (m : IndexMode) (op : Byte) (o : MemOp) :
    (decodeMain1 m op o).wellFormed = true := by
  unfold decodeMain1
  dsimp only
  repeat' split
  all_goals rfl

theorem decodeMain2_wellFormed (m : IndexMode) (op : Byte) (o : MemOp) :
    (decodeMain2 m op o).wellFormed = true := by
  unfold decodeMain2
  dsimp only
  split <;> rfl

theorem decodeMain3_wellFormed (m : IndexMode) (op b1 b2 b3 : Byte) :
    (decodeMain3 m op b1 b2 b3).wellFormed = true := by
  have hcb := decodePrefixedCB_wellFormed m b1 b2
  have hed := edUnder_wellFormed m (decodeED_wellFormed b1 (Machine.pair b3 b2))
  unfold decodeMain3
  dsimp only
  repeat' split
  all_goals first | exact hcb | exact hed | rfl

/-- The decoder answers well-formed entries alone. -/
theorem decodeOpAt_wellFormed (m : IndexMode) (op b1 b2 b3 : Byte) :
    (decodeOpAt m op b1 b2 b3).wellFormed = true := by
  unfold decodeOpAt
  split
  · exact decodeMain0_wellFormed _ _ _ _ _ _
  · exact decodeMain1_wellFormed _ _ _
  · exact decodeMain2_wellFormed _ _ _
  · exact decodeMain3_wellFormed _ _ _ _ _

theorem decodeFetched_wellFormed (m : IndexMode) (bs : List Byte) : (decodeFetched m bs).wellFormed = true :=
  (roundTrips_toInstr _ (decodeOpAt_wellFormed _ _ _ _ _)).wellFormed

/-! ### Lengths, opcode set by opcode set -/

/-- The opcodes with a memory operand are those of rule R117 item 1. -/
theorem hasMemOperand_eq (op : Byte) : hasMemOperand op = decide (op ∈ Safety.indexedMemoryOpcodes) := by
  revert op
  apply Safety.forall_byte
  decide +kernel

/-- The operand bytes n, e and nn of a main-table opcode (30_encoding.md rule R122). -/
theorem immediateCount_eq (op : Byte) (h : op ∉ [0xCB#8, 0xDD#8, 0xED#8, 0xFD#8]) :
    immediateCount op =
      (if op.toNat / 64 = 0 ∧ op.toNat % 8 = 6 ∨ op.toNat / 64 = 3 ∧ op.toNat % 8 = 6 ∨
          op ∈ [0xD3#8, 0xDB#8] ∨ op.toNat / 64 = 0 ∧ op.toNat % 8 = 0 ∧ 2 ≤ op.toNat / 8 % 8 then 1
        else 0) +
      (if op.toNat / 64 = 0 ∧ op.toNat % 16 = 1 ∨ op ∈ [0x22#8, 0x2A#8, 0x32#8, 0x3A#8] ∨
          op.toNat / 64 = 3 ∧ op.toNat % 8 = 2 ∨ op = 0xC3#8 ∨
          op.toNat / 64 = 3 ∧ op.toNat % 8 = 4 ∨ op = 0xCD#8 then 2
        else 0) := by
  revert op
  apply Safety.forall_byte
  decide +kernel

/-- The ED operation bytes with an address. -/
theorem edOperandCount_eq (op : Byte) :
    edOperandCount op =
      if op ∈ [0x43#8, 0x4B#8, 0x53#8, 0x5B#8, 0x63#8, 0x6B#8, 0x73#8, 0x7B#8] then 2 else 0 := by
  revert op
  apply Safety.forall_byte
  decide +kernel

theorem operandCount_eq (m : IndexMode) {op : Byte} (h : op ≠ 0xCB) :
    operandCount m op =
      immediateCount op + if m ≠ .hl ∧ op ∈ Safety.indexedMemoryOpcodes then 1 else 0 := by
  unfold operandCount
  rw [if_neg h, hasMemOperand_eq]
  cases m <;> simp [IndexMode.index]

theorem instrLength_main {m : IndexMode} {op : Byte} (hed : op ≠ 0xED) (hcb : op ≠ 0xCB) (b1 : Byte) :
    instrLength m op b1 = 1 + operandCount m op := by
  rw [instrLength, if_neg hed, if_neg fun h => hcb h.1]

end Sys2Proof

namespace Sys2Proof.Safety

open Sys2Proof.Machine

/-- Settles O2, each word by running the decoder on it. -/
theorem specWordsDecode : Obligations.SpecWordsDecode :=
  ⟨rfl, rfl, rfl, rfl, rfl, rfl, rfl, rfl, rfl⟩

/-- Settles O3, by the bounds on lengths and the well-formedness of what the decoder answers. -/
theorem everyByteSequenceDecodes : Obligations.EveryByteSequenceDecodes := by
  intro m b0 b1 b2 b3 rest
  obtain ⟨hpos, hle⟩ := instrLength_bounds m b0 b1
  have hlen : lengthAt m (b0 :: b1 :: b2 :: b3 :: rest) ≤ (b0 :: b1 :: b2 :: b3 :: rest).length :=
    hle.trans (by simp)
  exact ⟨_, _, decode_eq hlen, hpos, hle, decodeFetched_wellFormed _ _⟩

/-- Settles O4, opcode set by opcode set. -/
theorem instructionLengths : Obligations.InstructionLengths := by
  intro m op b1
  by_cases hidx : op ∈ [0xDD#8, 0xFD#8]
  · rw [if_pos hidx]
    simp only [List.mem_cons, List.not_mem_nil, or_false] at hidx
    rcases hidx with rfl | rfl <;> cases m <;> rfl
  rw [if_neg hidx]
  by_cases hcb : op = 0xCB#8
  · subst hcb
    cases m <;> rfl
  rw [if_neg hcb]
  by_cases hed : op = 0xED#8
  · subst hed
    rw [if_pos rfl]
    refine (instrLength_ed m b1).trans ?_
    rw [edOperandCount_eq]
    split <;> rfl
  rw [if_neg hed]
  have hmain : op ∉ [0xCB#8, 0xDD#8, 0xED#8, 0xFD#8] := by
    simp only [List.mem_cons, List.not_mem_nil, or_false, not_or] at hidx ⊢
    exact ⟨hcb, hidx.1, hed, hidx.2⟩
  rw [instrLength_main hed hcb, operandCount_eq m hcb, immediateCount_eq op hmain]
  simp only [Nat.add_assoc]
  rfl

/-- Settles O6: with neither interrupt taken the step decodes and executes. -/
theorem stepRunsDecodedInstruction : Obligations.StepRunsDecodedInstruction := by
  intro s hnmi hint
  show s.runStep = s.runInstruction
  simp [State.runStep, hnmi, hint]

end Sys2Proof.Safety
end

section
/-! PROOFS. The fetch of a step reads the bytes of one instruction at PC (30_encoding.md rules R118, R122). -/

namespace Sys2Proof.Safety

open Sys2Proof.Machine

/-- The `n` bytes memory holds from address `a` up. -/
def bytesAt (s : State) (a : Word) (n : Nat) : List Byte :=
  (List.range n).map fun k => byteAt s (a + BitVec.ofNat 16 k)

theorem add_one_add_ofNat (a : Word) (n : Nat) :
    a + 1 + BitVec.ofNat 16 n = a + BitVec.ofNat 16 (n + 1) := by
  rw [BitVec.ofNat_add]
  ac_rfl

theorem bytesAt_succ (s : State) (a : Word) (n : Nat) :
    bytesAt s a (n + 1) = byteAt s a :: bytesAt s (a + 1) n := by
  simp only [bytesAt, List.range_succ_eq_map, List.map_cons, List.map_map]
  congr 1
  · simp
  · exact List.map_congr_left fun k _ => congrArg (byteAt s) (add_one_add_ofNat a k).symm

theorem bytesAt_take (s : State) (a : Word) {k n : Nat} (h : k ≤ n) :
    (bytesAt s a n).take k = bytesAt s a k := by
  rw [bytesAt, ← List.map_take, List.take_range, Nat.min_eq_left h, bytesAt]

theorem bytesAt_four (s : State) (a : Word) :
    bytesAt s a 4 = [byteAt s a, byteAt s (a + 1), byteAt s (a + 2), byteAt s (a + 3)] := by
  simp [bytesAt, List.range_succ]

/-- Several refresh steps: bits 6-0 count modulo 128, bit 7 is kept (10_state.md rule R37). -/
theorem toNat_refreshStep_iterate (n : Nat) (r : Byte) :
    (refreshStep^[n] r).toNat = 128 * (r.toNat / 128) + (r.toNat % 128 + n) % 128 := by
  induction n generalizing r with
  | zero => simp; omega
  | succ n ih =>
    rw [Function.iterate_succ_apply, ih, toNat_refreshStep]
    omega

/-- The M1 fetches of an instruction by its opcode: two for ED and for an unprefixed CB, else one
(30_encoding.md rule R118). -/
def m1Fetches (m : IndexMode) (op : Byte) : Nat := if op = 0xED ∨ (op = 0xCB ∧ m = .hl) then 2 else 1

/-- Fetching from `s` answers in `f` the `n` bytes at PC, with PC past them and `k` refresh steps. -/
structure Fetches (n k : Nat) (s : State) (f : List Byte × State) : Prop where
  bytes : f.1 = bytesAt s s.pc n
  pc : f.2.pc = s.pc + BitVec.ofNat 16 n
  refresh : f.2.r = refreshStep^[k] s.r

/-- Operand fetches leave R alone (10_state.md rule R37). -/
theorem fetches_operands {s : State} (h : s.params.busModel = .ram) (n : Nat) :
    Fetches n 0 s (s.fetchOperands n) := by
  obtain ⟨hbytes, hpc, hr, -⟩ := fetchOperands_eq n s h
  exact ⟨hbytes, hpc, hr⟩

/-- An M1 fetch before other fetches. -/
theorem Fetches.opcode {s : State} (h : s.params.busModel = .ram) {n k : Nat} {f : List Byte × State}
    (hf : Fetches n k s.fetchOpcode.2 f) : Fetches (n + 1) (k + 1) s (s.fetchOpcode.1 :: f.1, f.2) := by
  refine ⟨?_, ?_, ?_⟩
  · rw [hf.bytes, bytesAt_succ]
    exact congrArg (· :: _) (busByte_ram h s.pc)
  · exact hf.pc.trans (add_one_add_ofNat s.pc n)
  · exact hf.refresh

/-- The fetch of a step reads the bytes of one instruction. -/
theorem fetches_fetchBytes {s : State} (h : s.params.busModel = .ram) :
    Fetches (instrLength s.indexMode (byteAt s s.pc) (byteAt s (s.pc + 1)))
      (m1Fetches s.indexMode (byteAt s s.pc)) s s.fetchBytes := by
  have hop : s.fetchOpcode.1 = byteAt s s.pc := busByte_ram h _
  have hop2 : s.fetchOpcode.2.fetchOpcode.1 = byteAt s (s.pc + 1) := busByte_ram (s := s.fetchOpcode.2) h _
  have h1 : s.fetchOpcode.2.params.busModel = .ram := h
  have h2 : s.fetchOpcode.2.fetchOpcode.2.params.busModel = .ram := h
  rw [← hop, ← hop2]
  unfold State.fetchBytes instrLength m1Fetches
  dsimp only
  by_cases hed : s.fetchOpcode.1 = 0xED
  · rw [if_pos hed, if_pos hed, if_pos (.inl hed), Nat.add_comm]
    exact ((fetches_operands h2 _).opcode h1).opcode h
  · rw [if_neg hed, if_neg hed]
    by_cases hcb : s.fetchOpcode.1 = 0xCB ∧ s.indexMode = .hl
    · rw [if_pos hcb, if_pos hcb, if_pos (.inr hcb)]
      exact ((fetches_operands h2 0).opcode h1).opcode h
    · rw [if_neg hcb, if_neg hcb, if_neg (not_or.mpr ⟨hed, hcb⟩), Nat.add_comm]
      exact (fetches_operands h1 _).opcode h

/-- A step's fetch changes the fetch parts alone. -/
theorem frame_fetched (s : State) : Frame fetchParts [] s s.fetched := by
  obtain ⟨pc, r, history, hf⟩ := fetchBytes_updates s
  have hbytes : Frame [.pc, .r, .history] [] s s.fetchBytes.2 := by
    rw [hf]
    exact Frame.of_mem_eq rfl fun p hp => by cases p <;> first | rfl | simp at hp
  exact (hbytes.trans (frame_startInstr _ _)).mono (by simp [fetchParts]) (by simp)

@[simp] theorem startInstr_pc (s : State) (op : Byte) : (s.startInstr op).pc = s.pc := by
  unfold State.startInstr
  split <;> rfl

@[simp] theorem startInstr_r (s : State) (op : Byte) : (s.startInstr op).r = s.r := by
  unfold State.startInstr
  split <;> rfl

theorem isPrefix_iff {op : Byte} : isPrefix op = true ↔ op = 0xDD ∨ op = 0xFD := by
  simp [isPrefix]

/-- The EI shadow and the index mode end with the fetch of any opcode but DD and FD (30_encoding.md rule R118,
10_state.md rule R45). -/
theorem fetched_eiPending_indexMode (s : State) :
    (s.fetched.eiPending, s.fetched.indexMode) =
      if isPrefix s.fetchOpcode.1 then (s.eiPending, s.indexMode) else (false, .hl) := by
  obtain ⟨pc, r, history, hf⟩ := fetchBytes_updates s
  unfold State.fetched State.startInstr
  rw [hf]
  split <;> rfl

/-- Settles O7, by the bytes the fetch of a step reads. -/
theorem fetchReadsTheInstructionAtPc : Obligations.FetchReadsTheInstructionAtPc := by
  intro s h bytes n m1
  obtain ⟨hbytes, hpc, hr⟩ := fetches_fetchBytes h
  have hn : lengthAt s.indexMode bytes = n := rfl
  have hn4 : n ≤ 4 := (instrLength_bounds _ _ _).2
  have hop : s.fetchOpcode.1 = byteAt s s.pc := busByte_ram h _
  have hshadow := fetched_eiPending_indexMode s
  rw [hop] at hshadow
  refine ⟨?_, ?_, ?_, fun hdd hfd => ?_, fun hpre => ?_, frame_fetched s⟩
  · rw [decode_eq (hn.trans_le hn4), hn, hbytes]
    congr 3
    exact (congrArg (List.take n) (bytesAt_four s s.pc).symm).trans (bytesAt_take s s.pc hn4)
  · exact (startInstr_pc _ _).trans hpc
  · rw [State.fetched, startInstr_r, hr, toNat_refreshStep_iterate]
    rfl
  · rw [if_neg fun hp => (isPrefix_iff.mp hp).elim hdd hfd] at hshadow
    exact Prod.mk.inj hshadow
  · rw [if_pos (isPrefix_iff.mpr hpre)] at hshadow
    exact Prod.mk.inj hshadow

end Sys2Proof.Safety
end

section
/-! PROOFS. The CB rotates and shifts of a register and of (HL) (44_rotate_shift_bit.md rules R324 to R333). -/

namespace Sys2Proof.Safety

open Sys2Proof.Machine

/-- Everything a rotate or shift of a register can do. -/
theorem rotReg_eq (s : State) (k : RotOp) (z : Reg8) :
    (s.rotReg k z).get8 z = (rot8 k (s.get8 z) s.main.f).1 ∧
      (s.rotReg k z).main.f = (rot8 k (s.get8 z) s.main.f).2 ∧
      Frame [part8 z, .f, .ticks] [] s (s.rotReg k z) := by
  refine ⟨by simp [State.rotReg], by simp [State.rotReg], ?_⟩
  exact (((frame_set8 s z _).trans (frame_setF _ _)).trans (frame_tick _ 8)).mono (by simp) (by simp)

/-- Everything a rotate or shift of (HL) can do: one read and one write of the byte (20_memory.md rule R78). -/
theorem rotHL_eq (s : State) (k : RotOp) :
    let r := rot8 k (s.busByte s.hl) s.main.f
    (Memory.wf s.mem = true → byteAt (s.rotHL k) s.hl = r.1) ∧ (s.rotHL k).main.f = r.2 ∧
      (s.rotHL k).history = .write s.hl r.1 :: .read s.hl (s.busByte s.hl) :: s.history ∧
      Frame [.f, .history, .ticks] [s.hl] s (s.rotHL k) := by
  intro r
  have ht : s.rotHL k =
      (((s.record (.read s.hl (s.busByte s.hl))).setF r.2).writeMem s.hl r.1).tick 15 := rfl
  rw [ht]
  refine ⟨fun h => byteAt_writeMem_self _ _ h, rfl, rfl, ?_⟩
  exact ((((frame_record s _).trans (frame_setF _ _)).trans (frame_writeMem _ _ _)).trans
    (frame_tick _ _)).mono (by simp) (by simp)

/-- Settles O46, by what `ROT` answers as arithmetic and where each form writes it. -/
theorem rotatesAndShifts : Obligations.RotatesAndShifts := by
  intro k z s c
  constructor
  · obtain ⟨hz, hf, hframe⟩ := rotReg_eq s k z
    obtain ⟨hres, hflags⟩ := rot8_eq k (s.get8 z) s.main.f
    exact ⟨_, exec_toInstr (.rotReg k z) s, (congrArg BitVec.toNat hz).trans hres,
      (congrArg flagBits hf).trans (hz ▸ hflags), hframe⟩
  · obtain ⟨hmem, hf, hhist, hframe⟩ := rotHL_eq s k
    obtain ⟨hres, hflags⟩ := rot8_eq k (s.busByte s.hl) s.main.f
    exact ⟨_, _, exec_toInstr (.rotHL k) s, hres, hmem, (congrArg flagBits hf).trans hflags, hhist, hframe⟩

end Sys2Proof.Safety
end

section
/-! PROOFS. The 8-bit loads (40_load8.md rules R200 to R219). -/

namespace Sys2Proof.Safety

open Sys2Proof.Machine

/-! ### Loads into a register or index half, and stores to a memory operand -/

/-- Everything an 8-bit load from a register, index half or immediate can do: no bus event, WZ kept. -/
theorem setLoc_tick_eq (s : State) (k : Loc8) (v : Byte) (n : Nat) :
    ((s.setLoc k v).tick n).getLoc k = v ∧ Frame [partLoc k, .ticks] [] s ((s.setLoc k v).tick n) :=
  ⟨by simp, (frame_setLoc s k v).trans (frame_tick _ n)⟩

/-- Everything an 8-bit load from a memory operand can do. -/
theorem load8_mem_eq (s : State) (y : Reg8) (o : MemOp) :
    let t := s.load8 (.reg y) (.mem o)
    t.get8 y = s.busByte (addressOf s o) ∧ t.wz = wzAfter s o ∧
      t.history = .read (addressOf s o) (s.busByte (addressOf s o)) :: s.history ∧
      Frame [part8 y, .wz, .history, .ticks] [] s t := by
  intro t
  have ht : t = (((s.setWz (wzAfter s o)).record (.read (addressOf s o) (s.busByte (addressOf s o)))).set8 y
      (s.busByte (addressOf s o))).tick (srcCycles (.mem o)) := by
    simp only [t, State.load8, State.readSrc, readOperand_eq, State.setLoc]
  rw [ht]
  refine ⟨by simp, by simp, by simp, ?_⟩
  exact ((((frame_setWz s _).trans (frame_record _ _)).trans (frame_set8 _ _ _)).trans
    (frame_tick _ _)).mono (by simp) (by simp)

/-- Everything an 8-bit store to a memory operand can do. -/
theorem writeOperand_tick_eq (s : State) (o : MemOp) (v : Byte) (n : Nat) :
    let t := (s.writeOperand o v).tick n
    (Memory.wf s.mem = true → byteAt t (addressOf s o) = v) ∧ t.wz = wzAfter s o ∧
      t.history = .write (addressOf s o) v :: s.history ∧
      Frame [.wz, .history, .ticks] [addressOf s o] s t := by
  rw [writeOperand_eq]
  refine ⟨fun h => byteAt_writeMem_self _ v h, rfl, rfl, ?_⟩
  exact (((frame_setWz s _).trans (frame_writeMem _ _ _)).trans (frame_tick _ _)).mono (by simp) (by simp)

/-- Settles O24: a load from a register, index half or immediate is one register write. -/
theorem registerLoads : Obligations.RegisterLoads := fun m y z n s =>
  ⟨⟨_, exec_toInstr (.ld m y z) s, setLoc_tick_eq s (rowLoc m y) (s.getLoc (rowLoc m z)) 4⟩,
    ⟨_, exec_toInstr (.ldImm m y n) s, setLoc_tick_eq s (rowLoc m y) n 7⟩⟩

/-- Settles O25, by the one read of the operand. -/
theorem memoryLoads : Obligations.MemoryLoads := fun o y s =>
  ⟨_, exec_toInstr (.ldFrom o y) s, load8_mem_eq s y o⟩

/-- Settles O26: both forms are one store to the operand. -/
theorem byteStores : Obligations.ByteStores := by
  intro o z n s
  rw [List.forall_mem_cons, List.forall_mem_singleton]
  exact ⟨⟨_, exec_toInstr (.ldTo o z) s, writeOperand_tick_eq s o (s.get8 z) _⟩,
    ⟨_, exec_toInstr (.ldToImm o n) s, writeOperand_tick_eq s o n _⟩⟩

/-! ### The accumulator and an address in BC, DE or the instruction -/

/-- Everything a load of A from an address can do (rules R208 to R210). -/
theorem loadAFrom_eq (s : State) (a : Word) (n : Nat) :
    let t := s.loadAFrom a n
    t.main.a = s.busByte a ∧ t.wz = a + 1 ∧ t.history = .read a (s.busByte a) :: s.history ∧
      Frame [.a, .wz, .history, .ticks] [] s t := by
  refine ⟨rfl, rfl, rfl, ?_⟩
  exact ((((frame_readMem s a).trans (frame_set8 _ .a _)).trans (frame_setWz _ _)).trans
    (frame_tick _ n)).mono (by simp [part8]) (by simp)

/-- Everything a store of A to an address can do (rules R211 to R213): the low byte of WZ wraps at 256. -/
theorem storeATo_eq (s : State) (a : Word) (n : Nat) :
    let t := s.storeATo a n
    (Memory.wf s.mem = true → byteAt t a = s.main.a) ∧
      t.wz.toNat = 256 * s.main.a.toNat + (a.toNat % 256 + 1) % 256 ∧
      t.history = .write a s.main.a :: s.history ∧ Frame [.wz, .history, .ticks] [a] s t := by
  refine ⟨fun h => byteAt_writeMem_self a _ h, ?_, rfl, ?_⟩
  · have hwz : (s.storeATo a n).wz = pair s.main.a (loByte a + 1) := rfl
    rw [hwz, toNat_pair, BitVec.toNat_add, toNat_loByte]
    rfl
  · exact (((frame_writeMem s a _).trans (frame_setWz _ _)).trans (frame_tick _ n)).mono
      (by simp) (by simp)

/-- Settles O27: the three loads and the three stores differ in where the address comes from. -/
theorem accumulatorTransfers : Obligations.AccumulatorTransfers := by
  intro nn s
  constructor
  · rw [List.forall_mem_cons, List.forall_mem_cons, List.forall_mem_singleton]
    exact ⟨⟨_, exec_toInstr .ldAFromBC s, loadAFrom_eq s s.bc 7⟩,
      ⟨_, exec_toInstr .ldAFromDE s, loadAFrom_eq s s.de 7⟩,
      ⟨_, exec_toInstr (.ldAFromNn nn) s, loadAFrom_eq s nn 13⟩⟩
  · rw [List.forall_mem_cons, List.forall_mem_cons, List.forall_mem_singleton]
    exact ⟨⟨_, exec_toInstr .ldAToBC s, storeATo_eq s s.bc 7⟩,
      ⟨_, exec_toInstr .ldAToDE s, storeATo_eq s s.de 7⟩,
      ⟨_, exec_toInstr (.ldAToNn nn) s, storeATo_eq s nn 13⟩⟩

/-! ### I and R -/

/-- Everything a load of A from I or R can do (rules R216, R217). -/
theorem loadAIr_eq (s : State) (v : Byte) :
    let t := s.loadAIr v
    t.main.a = v ∧
      flagBits t.main.f =
        { s := v.getLsbD 7, z := v == 0, y := v.getLsbD 5, h := false
          x := v.getLsbD 3, pv := s.iff2, n := false, c := (flagBits s.main.f).c } ∧
      Frame [.a, .f, .ticks] [] s t :=
  ⟨rfl, flagBits_packF _ _ _ _ _ _ _ _, (frame_setAF s _).trans (frame_tick _ 9)⟩

/-- A write to I changes I alone. -/
theorem frame_i (s : State) (v : Byte) : Frame [.i] [] s { s with i := v } :=
  Frame.of_mem_eq rfl fun p hp => by cases p <;> first | rfl | simp at hp

/-- A write to R changes R alone. -/
theorem frame_r (s : State) (v : Byte) : Frame [.r] [] s { s with r := v } :=
  Frame.of_mem_eq rfl fun p hp => by cases p <;> first | rfl | simp at hp

/-- Settles O28, by the flags of a load from I or R and the frame of a write to either. -/
theorem specialRegisterLoads : Obligations.SpecialRegisterLoads := by
  intro s
  rw [List.forall_mem_cons, List.forall_mem_singleton]
  exact ⟨⟨⟨_, exec_toInstr (.ed .ldAI) s, loadAIr_eq s s.i⟩,
      ⟨_, exec_toInstr (.ed .ldAR) s, loadAIr_eq s s.r⟩⟩,
    ⟨_, exec_toInstr (.ed .ldIA) s, rfl, (frame_i s s.main.a).trans (frame_tick _ 9)⟩,
    ⟨_, exec_toInstr (.ed .ldRA) s, rfl, (frame_r s s.main.a).trans (frame_tick _ 9)⟩⟩

end Sys2Proof.Safety
end

section
/-! PROOFS. The 16-bit loads, the stack and the exchanges (41_load16_exchange.md rules R230 to R248). -/

namespace Sys2Proof.Safety

open Sys2Proof.Machine

/-! ### Loads and stores of a word -/

/-- Everything a 16-bit load from memory can do. -/
theorem load16Mem_eq (s : State) (k : Reg16) (nn : Word) (n : Nat) :
    let t := s.load16Mem k nn n
    t.get16 k = wordAt s nn ∧ t.wz = nn + 1 ∧ t.history = wordReads s nn ++ s.history ∧
      Frame ([.wz, .history, .ticks] ++ parts16 k) [] s t := by
  intro t
  obtain ⟨hword, hhist, _, hread⟩ := readMem16_eq s nn
  have ht : t = (((s.readMem16 nn).2.set16 k (s.readMem16 nn).1).setWz (nn + 1)).tick n := rfl
  rw [ht]
  refine ⟨by simpa using hword, by simp, by simpa using hhist, ?_⟩
  exact (((hread.trans (frame_set16 _ k _)).trans (frame_setWz _ _)).trans (frame_tick _ n)).mono
    (by grind) (by simp)

/-- Everything a 16-bit store to memory can do. -/
theorem store16_eq (s : State) (k : Reg16) (nn : Word) (n : Nat) :
    let t := s.store16 k nn n
    (Memory.wf s.mem = true → byteAt t nn = loByte (s.get16 k) ∧ byteAt t (nn + 1) = hiByte (s.get16 k)) ∧
      t.wz = nn + 1 ∧
      t.history = .write (nn + 1) (hiByte (s.get16 k)) :: .write nn (loByte (s.get16 k)) :: s.history ∧
      Frame [.wz, .history, .ticks] [nn, nn + 1] s t := by
  obtain ⟨hhist, hmem, hwrite⟩ := writeMem16_eq s nn (s.get16 k)
  exact ⟨hmem, rfl, hhist,
    ((hwrite.trans (frame_setWz _ _)).trans (frame_tick _ n)).mono (by simp) (by simp)⟩

/-- Settles O29: the forms differ in the register, and a load of SP is a load of one more register. -/
theorem wordLoads : Obligations.WordLoads := by
  intro m p nn s
  rw [List.forall_mem_cons, List.forall_mem_singleton]
  refine ⟨⟨_, exec_toInstr (.ld16Imm m p nn) s, ?_, ?_⟩,
    ⟨⟨_, exec_toInstr (.ld16From m nn) s, load16Mem_eq s (modeReg m) nn 16⟩,
      ⟨_, exec_toInstr (.ed (.load p nn)) s, load16Mem_eq s (rpReg .hl p) nn 20⟩⟩,
    ⟨_, exec_toInstr (.ldSp m) s, rfl, (frame_set16 s .sp _).trans (frame_tick _ 6)⟩⟩
  · exact (State.get16_tick _ 10 _).trans (State.get16_set16_self s _ nn)
  · exact ((frame_set16 s _ nn).trans (frame_tick _ 10)).mono (by grind) (by simp)

/-- Settles O30: both forms are one store of a word. -/
theorem wordStores : Obligations.WordStores := by
  intro m p nn s
  rw [List.forall_mem_cons, List.forall_mem_singleton]
  exact ⟨⟨_, exec_toInstr (.ld16To m nn) s, store16_eq s (modeReg m) nn 16⟩,
    ⟨_, exec_toInstr (.ed (.store p nn)) s, store16_eq s (rpReg .hl p) nn 20⟩⟩

/-! ### PUSH and POP -/

/-- Everything PUSH can do (rules R240, R241). -/
theorem pushReg_eq (s : State) (k : Reg16) :
    let t := s.pushReg k
    t.sp = s.sp - 2 ∧
      (Memory.wf s.mem = true →
        byteAt t (s.sp - 1) = hiByte (s.get16 k) ∧ byteAt t (s.sp - 2) = loByte (s.get16 k)) ∧
      t.history = .write (s.sp - 2) (loByte (s.get16 k)) :: .write (s.sp - 1) (hiByte (s.get16 k)) ::
        s.history ∧
      Frame [.sp, .history, .ticks] [s.sp - 1, s.sp - 2] s t := by
  obtain ⟨hsp, hhist, _, hmem, hpush⟩ := push16_eq s (s.get16 k)
  exact ⟨hsp, hmem, hhist, hpush.trans (frame_tick _ 11)⟩

/-- A write to a 16-bit register other than SP keeps SP. -/
theorem set16_sp_of_ne (s : State) {k : Reg16} (h : k ≠ .sp) (v : Word) : (s.set16 k v).sp = s.sp := by
  cases k
  case sp => exact absurd rfl h
  all_goals rfl

/-- SP is not among the registers PUSH and POP name (30_encoding.md rule R103). -/
theorem rp2Reg_ne_sp (m : IndexMode) (p : Rp2) : rp2Reg m p ≠ .sp := by
  cases p <;> cases m <;> decide

/-- Everything POP can do (rules R242, R243): SP ends 2 higher because it is not itself popped. -/
theorem popReg_eq (s : State) {k : Reg16} (h : k ≠ .sp) :
    let t := s.popReg k
    t.sp = s.sp + 2 ∧ t.get16 k = wordAt s s.sp ∧ t.history = wordReads s s.sp ++ s.history ∧
      Frame ([.sp, .history, .ticks] ++ parts16 k) [] s t := by
  intro t
  obtain ⟨hword, hsp, hhist, _, hpop⟩ := pop16_eq s
  have ht : t = (s.pop16.2.set16 k s.pop16.1).tick 10 := rfl
  rw [ht]
  refine ⟨(set16_sp_of_ne _ h _).trans hsp, by simpa using hword, by simpa using hhist, ?_⟩
  exact ((hpop.trans (frame_set16 _ k _)).trans (frame_tick _ 10)).mono (by grind) (by simp)

/-- Settles O31, by what one push and one pop of a register other than SP do. -/
theorem pushAndPop : Obligations.PushAndPop := fun m p s =>
  ⟨⟨_, exec_toInstr (.push m p) s, pushReg_eq s (rp2Reg m p)⟩,
    ⟨_, exec_toInstr (.pop m p) s, popReg_eq s (rp2Reg_ne_sp m p)⟩⟩

/-! ### The exchanges -/

/-- EX DE,HL changes nothing but D, E, H, L and the clock (rule R244). -/
theorem frame_exDeHl (s : State) : Frame [.d, .e, .h, .l, .ticks] [] s s.exDeHl :=
  ((frame_set16 s .de s.hl).trans (frame_set16 _ .hl s.de)).trans (frame_tick _ 4)

/-- EX AF,AF′ changes nothing but A, F, A′, F′ and the clock (rule R245). -/
theorem frame_exAf (s : State) : Frame [.a, .f, .a', .f', .ticks] [] s s.exAf :=
  Frame.of_mem_eq rfl fun p hp => by cases p <;> simp at hp <;> rfl

/-- EXX changes nothing but BC, DE, HL, their shadows and the clock (rule R246). -/
theorem frame_exx (s : State) :
    Frame [.b, .c, .d, .e, .h, .l, .b', .c', .d', .e', .h', .l', .ticks] [] s s.exx :=
  Frame.of_mem_eq rfl fun p hp => by cases p <;> simp at hp <;> rfl

/-- Settles O32: EX DE,HL writes each pair with the other's word; the others swap whole registers. -/
theorem exchanges : Obligations.Exchanges := fun s =>
  ⟨⟨_, exec_toInstr .exDeHl s, pair_hiByte_loByte s.hl, pair_hiByte_loByte s.de, frame_exDeHl s⟩,
    ⟨_, exec_toInstr .exAf s, rfl, rfl, rfl, rfl, frame_exAf s⟩,
    ⟨_, exec_toInstr .exx s, rfl, rfl, rfl, rfl, rfl, rfl, rfl, rfl, rfl, rfl, rfl, rfl, frame_exx s⟩⟩

/-- Everything a word stored high byte first at `a + 1` and then `a` can do. -/
theorem writeMem_high_low_eq (s : State) (a v : Word) :
    let t := (s.writeMem (a + 1) (hiByte v)).writeMem a (loByte v)
    (Memory.wf s.mem = true → byteAt t a = loByte v ∧ byteAt t (a + 1) = hiByte v) ∧
      t.history = .write a (loByte v) :: .write (a + 1) (hiByte v) :: s.history ∧
      Frame [.history] [a, a + 1] s t := by
  refine ⟨fun h => ⟨?_, ?_⟩, rfl,
    ((frame_writeMem s _ _).trans (frame_writeMem _ _ _)).mono (by simp) (by simp)⟩
  · exact byteAt_writeMem_self a _ (State.wf_writeMem _ _ h)
  · have hne : a + 1 ≠ a := by bv_omega
    exact (byteAt_writeMem_ne _ hne).trans (byteAt_writeMem_self _ _ h)

/-- Everything EX (SP),HL and its index forms can do (rules R247, R248): two reads, two writes, then the
register and WZ. -/
theorem exSp_eq (s : State) (k : Reg16) :
    let t := s.exSp k
    t.get16 k = wordAt s s.sp ∧ t.wz = wordAt s s.sp ∧
      (Memory.wf s.mem = true →
        byteAt t s.sp = loByte (s.get16 k) ∧ byteAt t (s.sp + 1) = hiByte (s.get16 k)) ∧
      t.history = [.write s.sp (loByte (s.get16 k)), .write (s.sp + 1) (hiByte (s.get16 k))] ++
        wordReads s s.sp ++ s.history ∧
      Frame ([.wz, .history, .ticks] ++ parts16 k) [s.sp, s.sp + 1] s t := by
  intro t
  obtain ⟨_, hreads, _, hread⟩ := readMem16_eq s s.sp
  obtain ⟨hmem, hwrites, hwrite⟩ := writeMem_high_low_eq (s.readMem16 s.sp).2 s.sp (s.get16 k)
  generalize hu : ((s.readMem16 s.sp).2.writeMem (s.sp + 1) (hiByte (s.get16 k))).writeMem s.sp
    (loByte (s.get16 k)) = u at hmem hwrites hwrite
  have ht : t = ((u.set16 k (wordAt s s.sp)).setWz (wordAt s s.sp)).tick 19 := by rw [← hu]; rfl
  have hset : Frame (parts16 k ++ [.wz] ++ [.ticks]) [] u t := by
    rw [ht]
    exact ((frame_set16 u k _).trans (frame_setWz _ _)).trans (frame_tick _ 19)
  refine ⟨by simp [ht], by simp [ht], fun h => ?_, by simp [ht, hwrites, hreads], ?_⟩
  · rw [hset.2 _ List.not_mem_nil, hset.2 _ List.not_mem_nil]
    exact hmem h
  · exact ((hread.trans hwrite).trans hset).mono (by grind) (by simp)

/-- Settles O33: the forms differ in the register exchanged. -/
theorem stackExchange : Obligations.StackExchange := fun m s =>
  ⟨_, exec_toInstr (.exSp m) s, exSp_eq s (modeReg m)⟩

end Sys2Proof.Safety
end

section
/-! PROOFS. 8-bit arithmetic and logic (42_alu8.md rules R260 to R282). -/

namespace Sys2Proof.Safety

open Sys2Proof.Machine

/-! ### The operations on A and a source operand -/

/-- Every entry of an operation runs that operation on its source operand. -/
theorem exec_aluForm {a : AluOp} {o : Src8} {p : Op} (h : AluForm a o p) (s : State) :
    exec p.toInstr s = .next (s.alu a o) := by
  obtain ⟨m, z, rfl, rfl⟩ | ⟨mo, rfl, rfl⟩ | ⟨n, rfl, rfl⟩ := h
  · exact exec_toInstr (.aluReg m a z) s
  · exact exec_toInstr (.aluMem a mo) s
  · exact exec_toInstr (.aluImm a n) s

/-- Everything an operation on A and a source operand can do: A and F take its result on the operand's byte,
after the operand's own events. -/
theorem alu_eq (s : State) (a : AluOp) (o : Src8) :
    let r := aluResult a s.params.cpXy s.main.a (sourceByte s o) s.main.f
    let t := s.alu a o
    t.main.a = r.1 ∧ t.main.f = r.2 ∧ t.wz = sourceWz s o ∧ t.history = sourceEvents s o ++ s.history ∧
      Frame [.a, .f, .wz, .history, .ticks] [] s t := by
  obtain ⟨hbyte, hwz, hhist, -, hread⟩ := readSrc_eq s o
  rw [← hbyte]
  exact ⟨rfl, rfl, hwz, hhist,
    ((hread.trans (frame_setAF _ _)).trans (frame_tick _ _)).mono (by simp) (by simp)⟩

/-- ADD is ADC with the carry in 0 (rules R266, R267). -/
theorem aluResult_addition (withCarry : Bool) (xy : CpXySource) (a v f : Byte) :
    aluResult (if withCarry then .adc else .add) xy a v f = add8 a v (withCarry && (flagBits f).c) := by
  cases withCarry <;> rfl

/-- SUB is SBC with the borrow in 0 (rules R268, R269). -/
theorem aluResult_subtraction (withCarry : Bool) (xy : CpXySource) (a v f : Byte) :
    aluResult (if withCarry then .sbc else .sub) xy a v f = sub8 a v (withCarry && (flagBits f).c) := by
  cases withCarry <;> rfl

/-- A frame need not name a part that ends as it began. -/
theorem Frame.of_content_eq {p : Part} {ps : List Part} {xs : List Word} {s t : State}
    (h : Frame (p :: ps) xs s t) (hp : content t p = content s p) : Frame ps xs s t := by
  refine ⟨fun q hq => ?_, h.2⟩
  by_cases hqp : q = p
  · rw [hqp, hp]
  · exact h.1 q (List.not_mem_cons_of_ne_of_not_mem hqp hq)

/-- Settles O34, by `ADD8` in integers. -/
theorem additions : Obligations.Additions := by
  intro withCarry p o s h
  obtain ⟨ha, hf, hwz, hhist, hframe⟩ := alu_eq s (if withCarry then .adc else .add) o
  rw [aluResult_addition] at ha hf
  obtain ⟨hsum, hflags⟩ := add8_eq s.main.a (sourceByte s o) (withCarry && (flagBits s.main.f).c)
  rw [← ha] at hsum hflags
  exact ⟨_, exec_aluForm h s, hsum, (congrArg flagBits hf).trans hflags, hwz, hhist, hframe⟩

/-- `SUB8` is the difference modulo 256. -/
theorem sub8_toInt (a v : Byte) (c : Bool) :
    ((sub8 a v c).1.toNat : Int) = (a.toNat - v.toNat - c.toNat) % 256 := by
  rw [(sub8_eq a v c).1]
  have hv := v.isLt
  have hc := Bool.toNat_le c
  omega

/-- `SUB8` from 0 overflows for 0x80 alone (rule R280). -/
theorem sub8_zero_overflow (v : Byte) :
    ((0 : Byte).getLsbD 7 != v.getLsbD 7 && (sub8 0 v false).1.getLsbD 7 != (0 : Byte).getLsbD 7) =
      (v == 0x80) := by
  revert v
  apply forall_byte
  decide +kernel

/-- The borrow of 0 - v: for any byte but 0 (rule R280). -/
theorem decide_zero_lt_toNat (v : Byte) : decide (0 < v.toNat) = (v != 0) := by
  rw [Bool.eq_iff_iff, decide_eq_true_iff, bne_iff_ne]
  bv_omega

/-- NEG in integers (rule R280). -/
theorem sub8_zero_eq (v : Byte) :
    ((sub8 0 v false).1.toNat : Int) = (-v.toNat) % 256 ∧
      flagBits (sub8 0 v false).2 =
        { s := (sub8 0 v false).1.getLsbD 7, z := (sub8 0 v false).1 == 0, y := (sub8 0 v false).1.getLsbD 5
          h := decide (0 < v.toNat % 16), x := (sub8 0 v false).1.getLsbD 3
          pv := v == 0x80, n := true, c := v != 0 } := by
  constructor
  · simpa using sub8_toInt 0 v false
  · rw [(sub8_eq 0 v false).2, sub8_zero_overflow, ← decide_zero_lt_toNat]
    rfl

/-- Settles O35, by `SUB8` in integers. -/
theorem subtractions : Obligations.Subtractions := by
  refine ⟨fun withCarry p o s h => ?_, fun y s => ?_⟩
  · obtain ⟨ha, hf, hwz, hhist, hframe⟩ := alu_eq s (if withCarry then .sbc else .sub) o
    rw [aluResult_subtraction] at ha hf
    have hdiff := sub8_toInt s.main.a (sourceByte s o) (withCarry && (flagBits s.main.f).c)
    have hflags := (sub8_eq s.main.a (sourceByte s o) (withCarry && (flagBits s.main.f).c)).2
    rw [← ha] at hdiff hflags
    exact ⟨_, exec_aluForm h s, hdiff, (congrArg flagBits hf).trans hflags, hwz, hhist, hframe⟩
  · obtain ⟨hdiff, hflags⟩ := sub8_zero_eq s.main.a
    exact ⟨_, exec_toInstr (.ed (.neg y)) s, hdiff, hflags, (frame_setAF s _).trans (frame_tick _ 8)⟩

/-- Settles O36: A takes its own value, and a difference is 0 exactly when the operands are equal. -/
theorem comparisons : Obligations.Comparisons := by
  intro p o s h
  obtain ⟨ha, hf, hwz, hhist, hframe⟩ := alu_eq s .cp o
  have hflags := cpFlags_eq s.params.cpXy s.main.a (sourceByte s o)
  rw [sub_beq_zero] at hflags
  exact ⟨_, exec_aluForm h s, (congrArg flagBits hf).trans hflags, hwz, hhist,
    hframe.of_content_eq (congrArg Content.byte ha)⟩

/-- Settles O37: the three operations differ in the bitwise result and in H. -/
theorem logicOperations : Obligations.LogicOperations := by
  intro k p o s hk h
  obtain ⟨ha, hf, hwz, hhist, hframe⟩ := alu_eq s k o
  refine ⟨_, exec_aluForm h s, ?_, ?_, hwz, hhist, hframe⟩
  · obtain rfl | rfl | rfl := hk <;> exact ha
  · rw [ha, hf]
    obtain rfl | rfl | rfl := hk <;> exact flagBits_szp _ _ _ _

/-! ### INC and DEC -/

/-- Everything a read-modify-write of a register or index half can do. -/
theorem modifyLoc_tick_eq (s : State) (k : Loc8) (g : Byte → Byte → Byte × Byte) (n : Nat) :
    let r := g (s.getLoc k) s.main.f
    let t := (s.modifyLoc k g).tick n
    t.getLoc k = r.1 ∧ t.main.f = r.2 ∧ Frame [partLoc k, .f, .ticks] [] s t :=
  ⟨by simp [State.modifyLoc], rfl, ((frame_setLoc s k _).trans (frame_setF _ _)).trans (frame_tick _ n)⟩

/-- Everything a read-modify-write of a memory operand can do: one read and one write at the one resolved
address (20_memory.md rule R78). -/
theorem modifyOperand_tick_eq (s : State) (o : MemOp) (g : Byte → Byte → Byte × Byte) (n : Nat) :
    let ea := addressOf s o
    let r := g (s.busByte ea) s.main.f
    let t := (s.modifyOperand o g).tick n
    (Memory.wf s.mem = true → byteAt t ea = r.1) ∧ t.main.f = r.2 ∧ t.wz = wzAfter s o ∧
      t.history = .write ea r.1 :: .read ea (s.busByte ea) :: s.history ∧
      Frame [.f, .wz, .history, .ticks] [ea] s t := by
  rw [State.modifyOperand, updateOperand_eq]
  refine ⟨fun h => byteAt_writeMem_self _ _ h, rfl, rfl, rfl, ?_⟩
  exact (((((frame_setWz s _).trans (frame_record _ _)).trans (frame_setF _ _)).trans
    (frame_writeMem _ _ _)).trans (frame_tick _ n)).mono (by simp) (by simp)

/-- Settles O38, by the flags of `INC8` and `DEC8`. -/
theorem incDecRegister : Obligations.IncDecRegister := by
  intro m y s v
  constructor
  · obtain ⟨hr, hf, hframe⟩ := modifyLoc_tick_eq s (rowLoc m y) inc8 4
    have hadd : (v + 1).toNat = (v.toNat + 1) % 256 := BitVec.toNat_add v 1
    refine ⟨_, exec_toInstr (.incReg m y) s, (congrArg BitVec.toNat hr).trans hadd, ?_, hframe⟩
    exact (congrArg flagBits hf).trans (hr ▸ inc8_eq v s.main.f)
  · obtain ⟨hr, hf, hframe⟩ := modifyLoc_tick_eq s (rowLoc m y) dec8 4
    have hsub : (v - 1).toNat = (v.toNat + 255) % 256 := by bv_omega
    refine ⟨_, exec_toInstr (.decReg m y) s, (congrArg BitVec.toNat hr).trans hsub, ?_, hframe⟩
    exact (congrArg flagBits hf).trans (hr ▸ dec8_eq v s.main.f)

/-- Settles O39, by the flags of `INC8` and `DEC8`. -/
theorem incDecMemory : Obligations.IncDecMemory := by
  intro o s ea v
  constructor
  · obtain ⟨hmem, hf, hrest⟩ := modifyOperand_tick_eq s o inc8 (memCycles o 11 19)
    exact ⟨_, exec_toInstr (.incMem o) s, hmem, (congrArg flagBits hf).trans (inc8_eq v s.main.f), hrest⟩
  · obtain ⟨hmem, hf, hrest⟩ := modifyOperand_tick_eq s o dec8 (memCycles o 11 19)
    exact ⟨_, exec_toInstr (.decMem o) s, hmem, (congrArg flagBits hf).trans (dec8_eq v s.main.f), hrest⟩

/-! ### The operations on A and F alone -/

/-- Settles O40, by DAA in integers. -/
theorem decimalAdjust : Obligations.DecimalAdjust := by
  intro s
  obtain ⟨hsum, hflags⟩ := daa8_eq s.main.a s.main.f
  exact ⟨_, exec_toInstr .daa s, hsum, hflags, (frame_setAF s _).trans (frame_tick _ 4)⟩

/-- The bits of CPL's flags (rule R279). -/
theorem cplFlags_eq (a f : Byte) :
    flagBits (cplFlags a f) =
      { flagBits f with y := a.getLsbD 5, h := true, x := a.getLsbD 3, n := true } :=
  flagBits_packF _ _ _ _ _ _ _ _

/-- The bits of SCF's and CCF's flags (rules R281, R282). -/
theorem accFlags_eq (a f : Byte) (h c : Bool) :
    flagBits (accFlags a f h c) =
      { flagBits f with y := a.getLsbD 5, h := h, x := a.getLsbD 3, n := false, c := c } :=
  flagBits_packF _ _ _ _ _ _ _ _

/-- Settles O41, by the flags each of the three keeps and sets. -/
theorem accumulatorAndCarryOps : Obligations.AccumulatorAndCarryOps := by
  intro s f
  refine ⟨⟨_, exec_toInstr .cpl s, ?_, ?_, ?_⟩, ⟨_, exec_toInstr .scf s, ?_, ?_⟩,
    ⟨_, exec_toInstr .ccf s, ?_, ?_⟩⟩
  · exact BitVec.xor_allOnes
  · exact cplFlags_eq _ s.main.f
  · exact (frame_setAF s _).trans (frame_tick _ 4)
  · exact accFlags_eq s.main.a s.main.f false true
  · exact (frame_setF s _).trans (frame_tick _ 4)
  · exact accFlags_eq s.main.a s.main.f f.c (!f.c)
  · exact (frame_setF s _).trans (frame_tick _ 4)

end Sys2Proof.Safety
end

section
/-! PROOFS. 16-bit arithmetic (43_alu16.md rules R300 to R310). -/

namespace Sys2Proof.Safety

open Sys2Proof.Machine

/-! ### ADD, ADC and SBC -/

/-- The register ADD adds to is not AF (30_encoding.md rule R117 item 3). -/
theorem modeReg_ne_af (m : IndexMode) : modeReg m ≠ .af := by
  cases m <;> decide

/-- A write to F keeps every 16-bit register but AF. -/
theorem get16_setF_of_ne (s : State) {k : Reg16} (h : k ≠ .af) (v : Byte) :
    (s.setF v).get16 k = s.get16 k := by
  cases k
  case af => exact absurd rfl h
  all_goals rfl

/-- Everything a 16-bit operation with flags can do (rules R303 to R306): the register keeps its result
because F is not a half of it. -/
theorem set16Flags_eq (s : State) {k : Reg16} (h : k ≠ .af) (r : Word × Byte) (n : Nat) :
    let t := s.set16Flags k r n
    t.get16 k = r.1 ∧ t.main.f = r.2 ∧ t.wz = s.get16 k + 1 ∧
      Frame ([.f, .wz, .ticks] ++ parts16 k) [] s t := by
  refine ⟨?_, rfl, rfl, ?_⟩
  · simp [State.set16Flags, get16_setF_of_ne _ h]
  · exact ((((frame_set16 s k _).trans (frame_setF _ _)).trans (frame_setWz _ _)).trans
      (frame_tick _ n)).mono (by grind) (by simp)

/-- Settles O42, by `ADD16` in integers. -/
theorem wordAdditions : Obligations.WordAdditions := by
  intro m p s
  obtain ⟨hr, hf, hwz, hframe⟩ := set16Flags_eq s (modeReg_ne_af m)
    (add16 (s.get16 (modeReg m)) (s.get16 (rpReg m p)) s.main.f) 11
  obtain ⟨hsum, hflags⟩ := add16_eq (s.get16 (modeReg m)) (s.get16 (rpReg m p)) s.main.f
  rw [← hr] at hsum hflags
  exact ⟨_, exec_toInstr (.add16 m p) s, hsum, (congrArg flagBits hf).trans hflags, hwz, hframe⟩

/-- Everything ADC HL and SBC HL can do with their result (rules R305, R306). -/
theorem set16Flags_hl_eq (s : State) (r : Word × Byte) :
    let t := s.set16Flags .hl r 15
    t.hl = r.1 ∧ t.main.f = r.2 ∧ t.wz = s.hl + 1 ∧ Frame [.h, .l, .f, .wz, .ticks] [] s t := by
  obtain ⟨hr, hf, hwz, hframe⟩ := set16Flags_eq s (k := .hl) (by decide) r 15
  exact ⟨hr, hf, hwz, hframe.mono (by simp [parts16]) (by simp)⟩

/-- `SBC16` is the difference modulo 65,536. -/
theorem sbc16_toInt (a b : Word) (c : Bool) :
    ((sbc16 a b c).1.toNat : Int) = (a.toNat - b.toNat - c.toNat) % 65536 := by
  rw [(sbc16_eq a b c).1]
  have hb := b.isLt
  have hc := Bool.toNat_le c
  omega

/-- Settles O43, by `ADC16` and `SBC16` in integers. -/
theorem wordAddSubWithCarry : Obligations.WordAddSubWithCarry := by
  intro p s a b c
  constructor
  · obtain ⟨hr, hf, hwz, hframe⟩ := set16Flags_hl_eq s (adc16 a b (flagBits s.main.f).c)
    obtain ⟨hsum, hflags⟩ := adc16_eq a b (flagBits s.main.f).c
    rw [← hr] at hsum hflags
    exact ⟨_, exec_toInstr (.ed (.adcHL p)) s, hsum, (congrArg flagBits hf).trans hflags, hwz, hframe⟩
  · obtain ⟨hr, hf, hwz, hframe⟩ := set16Flags_hl_eq s (sbc16 a b (flagBits s.main.f).c)
    have hdiff := sbc16_toInt a b (flagBits s.main.f).c
    have hflags := (sbc16_eq a b (flagBits s.main.f).c).2
    rw [← hr] at hdiff hflags
    exact ⟨_, exec_toInstr (.ed (.sbcHL p)) s, hdiff, (congrArg flagBits hf).trans hflags, hwz, hframe⟩

/-! ### INC and DEC -/

/-- Everything a 16-bit register write that touches no flag and no bus can do. -/
theorem set16_tick_eq (s : State) (k : Reg16) (v : Word) (n : Nat) :
    let t := (s.set16 k v).tick n
    t.get16 k = v ∧ Frame (.ticks :: parts16 k) [] s t := by
  refine ⟨by simp, ?_⟩
  exact ((frame_set16 s k v).trans (frame_tick _ n)).mono (by grind) (by simp)

/-- Settles O44: each is one register write, of the register plus or minus 1. -/
theorem incDecWord : Obligations.IncDecWord := by
  intro m p s
  set k := rpReg m p
  constructor
  · obtain ⟨hr, hframe⟩ := set16_tick_eq s k (s.get16 k + 1) 6
    have hadd : (s.get16 k + 1).toNat = ((s.get16 k).toNat + 1) % 65536 := BitVec.toNat_add _ 1
    exact ⟨_, exec_toInstr (.inc16 m p) s, (congrArg BitVec.toNat hr).trans hadd, hframe⟩
  · obtain ⟨hr, hframe⟩ := set16_tick_eq s k (s.get16 k - 1) 6
    have hsub : (s.get16 k - 1).toNat = ((s.get16 k).toNat + 65535) % 65536 := by bv_omega
    exact ⟨_, exec_toInstr (.dec16 m p) s, (congrArg BitVec.toNat hr).trans hsub, hframe⟩

end Sys2Proof.Safety
end

section
/-! PROOFS. Accumulator and indexed rotates, bit operations and nibble rotates (44_rotate_shift_bit.md rules
R320 to R323 and R334 to R346). -/

namespace Sys2Proof.Safety

open Sys2Proof.Machine

/-! ### Rotates of A and of (m+d) -/

/-- The carry-out column of table `rot` is the bit moved out (rule R324). -/
theorem rotCarry_eq (k : RotOp) (v : Byte) : rotCarry k v = shiftedOut k v := by
  cases k <;> rfl

/-- Everything a rotate of A can do: the flags are those of SCF and CCF, with C the bit moved out. -/
theorem accRotate_eq (s : State) (k : RotOp) :
    let t := s.accRotate k
    t.main.a.toNat = rotated k s.main.a.toNat (flagBits s.main.f).c ∧
      flagBits t.main.f =
        { flagBits s.main.f with
          y := t.main.a.getLsbD 5, h := false, x := t.main.a.getLsbD 3, n := false
          c := shiftedOut k s.main.a } ∧
      Frame [.a, .f, .ticks] [] s t := by
  intro t
  refine ⟨rotResult_eq k s.main.a (flagC s.main.f), ?_, (frame_setAF s _).trans (frame_tick _ 4)⟩
  rw [← rotCarry_eq]
  exact accFlags_eq t.main.a s.main.f false (rotCarry k s.main.a)

/-- Settles O45: each of the four entries is a rotate of A by its operation of table `rot`. -/
theorem accumulatorRotates : Obligations.AccumulatorRotates := by
  intro s pk hpk
  have hrun : runOp pk.1 s = s.accRotate pk.2 := by
    simp only [List.mem_cons, List.not_mem_nil, or_false] at hpk
    obtain rfl | rfl | rfl | rfl := hpk <;> rfl
  exact ⟨_, hrun ▸ exec_toInstr pk.1 s, accRotate_eq s pk.2⟩

/-- Settles O47, by what `ROT` answers as arithmetic and where an indexed form writes it. -/
theorem indexedRotates : Obligations.IndexedRotates := by
  intro m k z d s
  obtain ⟨hmem, hwz, hf, hcopy, hhist, hframe⟩ := modifyIndexed_eq s m d true z (rot8 k)
  obtain ⟨hres, hflags⟩ := rot8_eq k (s.busByte (addressOf s (.atIdx m d))) s.main.f
  exact ⟨_, _, exec_toInstr (.rotIdx m k z d) s, hres, hmem, hwz, (congrArg flagBits hf).trans hflags,
    hcopy, hhist, hframe⟩

/-! ### BIT -/

/-- Everything BIT b,(HL) can do, with Y and X from the byte `BIT_HL_XY_SOURCE` names (rule R335). -/
theorem bitHL_eq (s : State) (b : Fin 8) :
    let v := s.busByte s.hl
    let xy := match s.params.bitHlXy with
      | .operand => v
      | .wzHigh => hiByte s.wz
    (s.bitHL b).main.f = bitFlags b v s.main.f xy ∧ (s.bitHL b).history = .read s.hl v :: s.history ∧
      Frame [.f, .history, .ticks] [] s (s.bitHL b) := by
  refine ⟨rfl, rfl, ?_⟩
  exact (((frame_readMem s s.hl).trans (frame_setF _ _)).trans (frame_tick _ 12)).mono (by simp) (by simp)

/-- Everything BIT b,(m+d) can do (rule R342). -/
theorem bitIdx_eq (s : State) (m : IdxReg) (b : Fin 8) (d : Byte) :
    let ea := addressOf s (.atIdx m d)
    let t := s.bitIdx m b d
    t.main.f = bitFlags b (s.busByte ea) s.main.f (hiByte ea) ∧ t.wz = ea ∧
      t.history = .read ea (s.busByte ea) :: s.history ∧ Frame [.f, .wz, .history, .ticks] [] s t := by
  simp only [State.bitIdx, resolve_eq]
  refine ⟨rfl, rfl, rfl, ?_⟩
  exact ((((frame_setWz s _).trans (frame_readMem _ _)).trans (frame_setF _ _)).trans
    (frame_tick _ 16)).mono (by simp) (by simp)

/-- Settles O48: the forms differ in the byte tested and in the byte Y and X come from. -/
theorem bitTests : Obligations.BitTests := by
  intro b z m k d s bits
  refine ⟨?_, ?_, ?_⟩
  · exact ⟨_, exec_toInstr (.bitReg b z) s, bitFlags_eq b (s.get8 z) s.main.f (s.get8 z),
      (frame_setF s _).trans (frame_tick _ 8)⟩
  · obtain ⟨hf, hrest⟩ := bitHL_eq s b
    exact ⟨_, exec_toInstr (.bitHL b) s, (congrArg flagBits hf).trans (bitFlags_eq b _ s.main.f _), hrest⟩
  · obtain ⟨hf, hrest⟩ := bitIdx_eq s m b d
    exact ⟨_, exec_toInstr (.bitIdx m b k d) s, (congrArg flagBits hf).trans (bitFlags_eq b _ s.main.f _),
      hrest⟩

/-! ### RES and SET -/

/-- SET for `on`, else RES, on a byte; F is kept (rules R336 to R339). -/
def assignBit (on : Bool) (b : Fin 8) (v f : Byte) : Byte × Byte :=
  if on then setBit b v f else resBit b v f

/-- Exactly bit `b` takes `on`. -/
theorem getLsbD_assignBit (on : Bool) (b j : Fin 8) (v f : Byte) :
    (assignBit on b v f).1.getLsbD j = if j = b then on else v.getLsbD j := by
  obtain ⟨hres, hset⟩ := resBit_setBit_eq b j v f
  cases on
  · exact hres
  · exact hset

/-- No flag changes. -/
theorem assignBit_flags (on : Bool) (b : Fin 8) (v f : Byte) : (assignBit on b v f).2 = f := by
  cases on <;> rfl

/-- The register form is one register write. -/
theorem exec_assignBit_reg (on : Bool) (b : Fin 8) (z : Reg8) (s : State) :
    exec (if on then Op.setReg b z else Op.resReg b z).toInstr s =
      .next ((s.set8 z (assignBit on b (s.get8 z) s.main.f).1).tick 8) := by
  cases on
  · exact exec_toInstr (.resReg b z) s
  · exact exec_toInstr (.setReg b z) s

/-- The (HL) form is a read-modify-write of the byte. -/
theorem exec_assignBit_hl (on : Bool) (b : Fin 8) (s : State) :
    exec (if on then Op.setHL b else Op.resHL b).toInstr s =
      .next ((s.modifyOperand .atHL (assignBit on b)).tick 15) := by
  cases on
  · exact exec_toInstr (.resHL b) s
  · exact exec_toInstr (.setHL b) s

/-- The indexed form is an indexed read-modify-write of the byte. -/
theorem exec_assignBit_idx (on : Bool) (m : IdxReg) (b : Fin 8) (z : Option Reg8) (d : Byte) (s : State) :
    exec (if on then Op.setIdx m b z d else Op.resIdx m b z d).toInstr s =
      .next (s.modifyIndexed m d false z (assignBit on b)) := by
  cases on
  · exact exec_toInstr (.resIdx m b z d) s
  · exact exec_toInstr (.setIdx m b z d) s

/-- Settles O49: F and WZ end as they began, so the frame of the (HL) form need not name them. -/
theorem resetAndSetBits : Obligations.ResetAndSetBits := by
  intro on b z s
  constructor
  · refine ⟨_, exec_assignBit_reg on b z s, fun j => ?_, (frame_set8 s z _).trans (frame_tick _ 8)⟩
    rw [State.get8_tick, State.get8_set8_self]
    exact getLsbD_assignBit on b j _ _
  · obtain ⟨hmem, hf, hwz, hhist, hframe⟩ := modifyOperand_tick_eq s .atHL (assignBit on b) 15
    rw [assignBit_flags] at hf
    exact ⟨_, _, exec_assignBit_hl on b s, fun j => getLsbD_assignBit on b j _ _, hmem, hhist,
      (hframe.of_content_eq (congrArg Content.byte hf)).of_content_eq (congrArg Content.word hwz)⟩

/-- Settles O50: F ends as it began, so the frame need not name it. -/
theorem indexedResetAndSetBits : Obligations.IndexedResetAndSetBits := by
  intro on m b z d s
  obtain ⟨hmem, hwz, hf, hcopy, hhist, hframe⟩ := modifyIndexed_eq s m d false z (assignBit on b)
  rw [assignBit_flags] at hf
  exact ⟨_, _, exec_assignBit_idx on m b z d s, fun j => getLsbD_assignBit on b j _ _, hmem, hwz, hcopy,
    hhist, hframe.of_content_eq (congrArg Content.byte hf)⟩

/-! ### RLD and RRD -/

/-- The byte of `x`'s low nibble over the nibble `y`, as a number. -/
theorem toNat_nibbles (x y : Byte) (hy : y.toNat < 16) :
    (x <<< 4 ||| y).toNat = x.toNat % 16 * 16 + y.toNat := by
  have hx : (x <<< 4).toNat = (x.toNat % 16) <<< 4 := by
    rw [BitVec.toNat_shiftLeft, Nat.shiftLeft_eq, Nat.shiftLeft_eq]
    omega
  rw [BitVec.toNat_or, hx, ← Nat.shiftLeft_add_eq_or_of_lt hy, Nat.shiftLeft_eq]

/-- The high nibble as a number. -/
theorem toNat_ushiftRight_four (v : Byte) : (v >>> 4).toNat = v.toNat / 16 := by
  rw [BitVec.toNat_ushiftRight, Nat.shiftRight_eq_div_pow]

/-- The high nibble in its place. -/
theorem and_highNibble (v : Byte) : v &&& 0xF0#8 = v >>> 4 <<< 4 := by
  revert v; apply forall_byte; decide +kernel

/-- A's low nibble replaced by the nibble `y`, as a number. -/
theorem toNat_withLowNibble (a y : Byte) (hy : y.toNat < 16) :
    ((a &&& 0xF0#8) ||| y).toNat = a.toNat / 16 * 16 + y.toNat := by
  have ha := a.isLt
  rw [and_highNibble, toNat_nibbles _ _ hy, toNat_ushiftRight_four]
  omega

/-- RLD in integers: the new memory byte and the new A (rule R345). -/
theorem toNat_rldBytes (v a : Byte) :
    (rldBytes v a).1.toNat = v.toNat % 16 * 16 + a.toNat % 16 ∧
      (rldBytes v a).2.toNat = a.toNat / 16 * 16 + v.toNat / 16 := by
  have hlow := toNat_lowNibble a
  have hhigh := toNat_ushiftRight_four v
  have hv := v.isLt
  exact ⟨(toNat_nibbles v _ (by omega)).trans (by rw [hlow]),
    (toNat_withLowNibble a _ (by omega)).trans (by rw [hhigh])⟩

/-- RRD in integers: the new memory byte and the new A (rule R346). -/
theorem toNat_rrdBytes (v a : Byte) :
    (rrdBytes v a).1.toNat = a.toNat % 16 * 16 + v.toNat / 16 ∧
      (rrdBytes v a).2.toNat = a.toNat / 16 * 16 + v.toNat % 16 := by
  have hlow := toNat_lowNibble v
  have hhigh := toNat_ushiftRight_four v
  have hv := v.isLt
  exact ⟨(toNat_nibbles a _ (by omega)).trans (by rw [hhigh]),
    (toNat_withLowNibble a _ (by omega)).trans (by rw [hlow])⟩

/-- Everything a nibble rotate can do: `g` answers the byte written back to (HL) and the new A. -/
theorem nibbleRotate_eq (s : State) (g : Byte → Byte → Byte × Byte) :
    let r := g (s.busByte s.hl) s.main.a
    let t := s.nibbleRotate g
    t.main.a = r.2 ∧ (Memory.wf s.mem = true → byteAt t s.hl = r.1) ∧
      t.main.f = szpKeepC r.2 s.main.f ∧ t.wz = s.hl + 1 ∧
      t.history = .write s.hl r.1 :: .read s.hl (s.busByte s.hl) :: s.history ∧
      Frame [.a, .f, .wz, .history, .ticks] [s.hl] s t := by
  refine ⟨rfl, fun h => ?_, rfl, rfl, rfl, ?_⟩
  · exact byteAt_writeMem_self (s := (s.readMem s.hl).2) s.hl _ h
  · exact (((((frame_readMem s _).trans (frame_writeMem _ _ _)).trans (frame_setAF _ _)).trans
      (frame_setWz _ _)).trans (frame_tick _ 18)).mono (by simp) (by simp)

/-- The bits of `SZP` with C kept (rule R345). -/
theorem flagBits_szpKeepC (v f : Byte) :
    flagBits (szpKeepC v f) =
      { s := v.getLsbD 7, z := v == 0, y := v.getLsbD 5, h := false
        x := v.getLsbD 3, pv := evenParity v, n := false, c := (flagBits f).c } :=
  flagBits_szp v false false (flagC f)

/-- Settles O51: the two forms differ in the nibbles they move. -/
theorem nibbleRotates : Obligations.NibbleRotates := by
  intro left s
  cases left
  · obtain ⟨ha, hmem, hf, hrest⟩ := nibbleRotate_eq s rrdBytes
    obtain ⟨hw, hnew⟩ := toNat_rrdBytes (s.busByte s.hl) s.main.a
    rw [← ha] at hf hnew
    exact ⟨_, _, exec_toInstr (.ed .rrd) s, hw, hnew, hmem,
      (congrArg flagBits hf).trans (flagBits_szpKeepC _ s.main.f), hrest⟩
  · obtain ⟨ha, hmem, hf, hrest⟩ := nibbleRotate_eq s rldBytes
    obtain ⟨hw, hnew⟩ := toNat_rldBytes (s.busByte s.hl) s.main.a
    rw [← ha] at hf hnew
    exact ⟨_, _, exec_toInstr (.ed .rld) s, hw, hnew, hmem,
      (congrArg flagBits hf).trans (flagBits_szpKeepC _ s.main.f), hrest⟩

end Sys2Proof.Safety
end

section
/-! PROOFS. The block instructions (45_block.md rules R360 to R380). -/

namespace Sys2Proof.Safety

open Sys2Proof.Machine

/-! ### After the iteration (rule R364) -/

/-- A block instruction ends as its iteration left the core, except that PC, WZ and `ticks` are those of the
rewind when it repeats. No iteration writes PC. -/
theorem exec_block (fam : BlockFamily) (up rep : Bool) (s : State) :
    let i := s.blockIterate fam up
    let again := rep && blockRepeats fam s
    exec (Op.ed (.block fam up rep)).toInstr s =
      .next ((({ i with pc := if again then s.pc - 2 else s.pc } : State).setWz
        (if again then (i.blockRewind fam).wz else i.wz)).tick (if again then 21 else 16)) := by
  intro i again
  have hcond : (rep && i.blockContinues fam) = again := by
    rw [blockContinues_iterate fam up s]
  rw [exec_toInstr]
  refine congrArg Host.Outcome.next (?_ : s.block fam up rep = _)
  cases hagain : again with
  | false => rw [block_ends (hcond.trans hagain)]; cases fam <;> rfl
  | true => rw [block_again (hcond.trans hagain)]; cases fam <;> rfl

/-- The memory forms rewind WZ to PC + 1, which is one below the PC before the rewind. -/
theorem blockRewind_wz_of_memory {fam : BlockFamily} (h : fam = .ld ∨ fam = .cp) (s : State) :
    (s.blockRewind fam).wz = s.pc - 1 := by
  have hpc : s.pc - 2 + 1 = s.pc - 1 := by bv_omega
  obtain rfl | rfl := h <;> exact hpc

/-- The port forms keep WZ in the rewind. -/
theorem blockRewind_wz_of_port {fam : BlockFamily} (h : fam = .inp ∨ fam = .outp) (s : State) :
    (s.blockRewind fam).wz = s.wz := by
  obtain rfl | rfl := h <;> rfl

/-- What ends a block instruction changes PC, WZ and `ticks` alone. -/
theorem frame_blockEnd (s : State) (pc wz : Word) (n : Nat) :
    Frame [.pc, .wz, .ticks] [] s ((({ s with pc := pc } : State).setWz wz).tick n) :=
  ((frame_pc s pc).trans (frame_setWz _ wz)).trans (frame_tick _ n)

/-! ### The families -/

/-- Settles O52, by one transfer iteration and its flags. -/
theorem blockTransfers : Obligations.BlockTransfers := by
  intro up rep s
  obtain ⟨hmem, hhl, hde, hbc, hf, hpc, hwz, hhist, hframe⟩ := ldxIterate_eq s up
  rw [blockStep_eq] at hhl hde
  refine ⟨_, exec_block .ld up rep s, hmem, hhl, hde, hbc, ?_, rfl, ?_, hhist,
    (hframe.trans (frame_blockEnd _ _ _ _)).mono (by simp) (by simp)⟩
  · refine (congrArg flagBits hf).trans ?_
    rw [ldxFlags_eq, sub_one_bne_zero]
  · rw [State.tick_wz, State.setWz_wz, blockRewind_wz_of_memory (.inl rfl), hpc, hwz]
    rfl

/-- Settles O53, by one compare iteration and its flags. -/
theorem blockCompares : Obligations.BlockCompares := by
  intro up rep s
  obtain ⟨hhl, hbc, hf, hpc, hwz, hhist, hframe⟩ := cpxIterate_eq s up
  rw [blockStep_eq] at hhl hwz
  have hagain : (rep && blockRepeats .cp s) = (rep && s.bc != 1 && s.main.a != s.busByte s.hl) :=
    (Bool.and_assoc _ _ _).symm
  refine ⟨_, exec_block .cp up rep s, hhl, hbc, ?_, ?_, ?_, hhist,
    (hframe.trans (frame_blockEnd _ _ _ _)).mono (by simp) (by simp)⟩
  · refine (congrArg flagBits hf).trans ?_
    rw [cpxFlags_eq, sub_one_bne_zero]
  · rw [State.tick_pc, State.setWz_pc, hagain]
  · rw [State.tick_wz, State.setWz_wz, blockRewind_wz_of_memory (.inr rfl), hpc, hwz, hagain]

/-- The other addend of an input iteration's sum k, as a number (rule R362). -/
theorem toNat_add_loByte_blockStep (c : Byte) (up : Bool) :
    (c + loByte (blockStep up)).toNat = (c.toNat + if up then 1 else 255) % 256 := by
  cases up <;> exact BitVec.toNat_add c _

/-- Settles O54, by one input and one output iteration: both write the flags of one sum, and the rewind of
neither writes WZ. -/
theorem blockInputOutput : Obligations.BlockInputOutput := by
  intro up rep s step b again bits
  constructor
  · obtain ⟨hmem, hb, hhl, hwz, hf, -, hhist, hframe⟩ := inxIterate_eq s up
    rw [blockStep_eq] at hhl hwz
    refine ⟨_, exec_block .inp up rep s, hmem, hb, hhl, ?_, ?_, rfl, hhist,
      (hframe.trans (frame_blockEnd _ _ _ _)).mono (by simp) (by simp)⟩
    · rw [State.tick_wz, State.setWz_wz, blockRewind_wz_of_port (.inl rfl), ite_self, hwz]
    · refine (congrArg flagBits hf).trans ?_
      rw [ioxFlags_eq, toNat_add_loByte_blockStep]
  · obtain ⟨hb, hhl, hwz, hf, -, hhist, hframe⟩ := outxIterate_eq s up
    rw [blockStep_eq] at hhl hwz
    refine ⟨_, exec_block .outp up rep s, hb, hhl, ?_, (congrArg flagBits hf).trans (ioxFlags_eq _ _ _), rfl,
      hhist, (hframe.trans (frame_blockEnd _ _ _ _)).mono (by simp) (by simp)⟩
    rw [State.tick_wz, State.setWz_wz, blockRewind_wz_of_port (.inr rfl), ite_self, hwz]

end Sys2Proof.Safety
end

section
/-! PROOFS. Input and output (46_io.md rules R385 to R390). -/

namespace Sys2Proof.Safety

open Sys2Proof.Machine

/-! ### Port reads -/

/-- A port read changes the event history alone (20_memory.md rule R72). -/
theorem frame_ioRead (s : State) (p : Word) : Frame [.history] [] s (s.ioRead p).2 := frame_record s _

/-- Everything IN A,(n) can do (rule R385): F is not among the parts it changes. -/
theorem inA_eq (s : State) (n : Byte) :
    let port := pair s.main.a n
    let t := s.inA n
    t.main.a = Config.ioRead s.history port ∧ t.wz = port + 1 ∧
      t.history = .input port (Config.ioRead s.history port) :: s.history ∧
      Frame [.a, .wz, .history, .ticks] [] s t := by
  refine ⟨rfl, rfl, rfl, ?_⟩
  exact ((((frame_ioRead s _).trans (frame_set8 _ .a _)).trans (frame_setWz _ _)).trans
    (frame_tick _ 11)).mono (by simp [part8]) (by simp)

/-- Everything IN r,(C) can do (rule R387). -/
theorem inReg_eq (s : State) (k : Reg8) :
    let v := Config.ioRead s.history s.bc
    let t := s.inReg k
    t.get8 k = v ∧ t.main.f = szpKeepC v s.main.f ∧ t.wz = s.bc + 1 ∧
      t.history = .input s.bc v :: s.history ∧ Frame [part8 k, .f, .wz, .history, .ticks] [] s t := by
  refine ⟨by simp [State.inReg, State.ioRead], rfl, rfl, by simp [State.inReg, State.ioRead], ?_⟩
  exact (((((frame_ioRead s _).trans (frame_set8 _ k _)).trans (frame_setF _ _)).trans
    (frame_setWz _ _)).trans (frame_tick _ 12)).mono (by simp) (by simp)

/-- Everything IN F,(C) can do (rule R388): no register takes the byte. -/
theorem inF_eq (s : State) :
    let v := Config.ioRead s.history s.bc
    let t := s.inF
    t.main.f = szpKeepC v s.main.f ∧ t.wz = s.bc + 1 ∧ t.history = .input s.bc v :: s.history ∧
      Frame [.f, .wz, .history, .ticks] [] s t := by
  refine ⟨rfl, rfl, rfl, ?_⟩
  exact ((((frame_ioRead s _).trans (frame_setF _ _)).trans (frame_setWz _ _)).trans
    (frame_tick _ 12)).mono (by simp) (by simp)

/-! ### Port writes -/

/-- A port write followed by the WZ write of an OUT changes the history, WZ and `ticks` alone
(rules R386, R389, R390). -/
theorem frame_portWrite (s : State) (p : Word) (v : Byte) (wz : Word) (n : Nat) :
    Frame [.wz, .history, .ticks] [] s (((s.ioWrite p v).setWz wz).tick n) :=
  (((frame_record s (.output p v)).trans (frame_setWz _ wz)).trans (frame_tick _ n)).mono
    (by simp) (by simp)

/-- Everything OUT (n),A can do (rule R386): the low byte of WZ wraps at 256. -/
theorem outA_eq (s : State) (n : Byte) :
    let t := s.outA n
    t.wz.toNat = 256 * s.main.a.toNat + (n.toNat + 1) % 256 ∧
      t.history = .output (pair s.main.a n) s.main.a :: s.history ∧
      Frame [.wz, .history, .ticks] [] s t := by
  refine ⟨?_, rfl, frame_portWrite s _ _ _ 11⟩
  have hwz : (s.outA n).wz = pair s.main.a (n + 1) := rfl
  rw [hwz, toNat_pair, BitVec.toNat_add]
  rfl

/-- Everything OUT (C) of a byte can do (rules R389, R390). -/
theorem outC_eq (s : State) (v : Byte) :
    let t := s.outC v
    t.wz = s.bc + 1 ∧ t.history = .output s.bc v :: s.history ∧ Frame [.wz, .history, .ticks] [] s t :=
  ⟨rfl, rfl, frame_portWrite s _ _ _ 12⟩

/-! ### The family -/

/-- Settles O55: one port read or write each; IN r,(C) and IN F,(C) write the flags of one `SZP` with C kept,
and the two forms of OUT (C) differ in the byte alone. -/
theorem portTransfers : Obligations.PortTransfers := by
  intro n k s bits
  have hbits (f v : Byte) (h : f = szpKeepC v s.main.f) : flagBits f = bits v :=
    (congrArg flagBits h).trans (flagBits_szpKeepC v s.main.f)
  refine ⟨⟨_, exec_toInstr (.inA n) s, inA_eq s n⟩, ⟨_, exec_toInstr (.outA n) s, outA_eq s n⟩, ?_, ?_, ?_⟩
  · obtain ⟨hreg, hf, hrest⟩ := inReg_eq s k
    exact ⟨_, exec_toInstr (.ed (.inReg k)) s, hreg, hbits _ _ hf, hrest⟩
  · obtain ⟨hf, hrest⟩ := inF_eq s
    exact ⟨_, exec_toInstr (.ed .inF) s, hbits _ _ hf, hrest⟩
  · rw [List.forall_mem_cons, List.forall_mem_singleton]
    exact ⟨⟨_, exec_toInstr (.ed (.outReg k)) s, outC_eq s (s.get8 k)⟩,
      ⟨_, exec_toInstr (.ed .outZero) s, outC_eq s s.params.outCZero⟩⟩

end Sys2Proof.Safety
end

section
/-! PROOFS. Jumps, calls, restarts and returns (47_control_flow.md rules R400 to R413). -/

namespace Sys2Proof.Safety

open Sys2Proof.Machine

variable {s : State} {k : Cond}

/-! ### Jumps -/

/-- A taken jump: PC and WZ take the target. -/
theorem frame_jumpTo_tick (s : State) (target : Word) (n : Nat) :
    Frame [.pc, .wz, .ticks] [] s ((s.jumpTo target).tick n) :=
  (frame_jumpTo s target).trans (frame_tick _ n)

/-- Everything JP cc,nn can do (rule R401): WZ takes the target whether or not PC does. -/
theorem jpCc_eq (s : State) (k : Cond) (nn : Word) :
    let t := s.jpCc k nn
    t.pc = (if condition k s then nn else s.pc) ∧ t.wz = nn ∧ Frame [.pc, .wz, .ticks] [] s t := by
  simp only [State.jpCc, condHolds_eq]
  split
  case isTrue => exact ⟨rfl, rfl, frame_jumpTo_tick s nn 10⟩
  case isFalse =>
    exact ⟨rfl, rfl, ((frame_setWz s nn).trans (frame_tick _ 10)).mono (by simp) (by simp)⟩

/-- Everything JR cc,e can do (rule R403): an untaken jump leaves WZ too. -/
theorem jrCc_eq (s : State) (k : Cond) (e : Byte) :
    let near := s.pc + e.signExtend 16
    let t := s.jrCc k e
    t.pc = (if condition k s then near else s.pc) ∧ t.wz = (if condition k s then near else s.wz) ∧
      Frame [.pc, .wz, .ticks] [] s t := by
  simp only [State.jrCc, condHolds_eq]
  split
  case isTrue => exact ⟨rfl, rfl, frame_jumpTo_tick s _ 12⟩
  case isFalse => exact ⟨rfl, rfl, (frame_tick s 7).mono (by simp) (by simp)⟩

/-- Everything DJNZ e can do (rule R404): B counts down, and the jump is taken unless B was 1. -/
theorem djnz_eq (s : State) (e : Byte) :
    let near := s.pc + e.signExtend 16
    let t := s.djnz e
    t.main.b = s.main.b - 1 ∧ t.pc = (if s.main.b = 1 then s.pc else near) ∧
      t.wz = (if s.main.b = 1 then s.wz else near) ∧ Frame [.b, .pc, .wz, .ticks] [] s t := by
  intro near t
  have hb : Frame [.b] [] s (s.set8 .b (s.main.b - 1)) := frame_set8 s .b _
  by_cases hlast : s.main.b = 1
  · have ht : t = (s.set8 .b (s.main.b - 1)).tick 8 := if_neg (not_not_intro (sub_eq_zero.mpr hlast))
    rw [ht, if_pos hlast, if_pos hlast]
    exact ⟨rfl, rfl, rfl, (hb.trans (frame_tick _ 8)).mono (by simp) (by simp)⟩
  · have ht : t = ((s.set8 .b (s.main.b - 1)).jumpTo near).tick 13 := if_pos (sub_ne_zero.mpr hlast)
    rw [ht, if_neg hlast, if_neg hlast]
    exact ⟨rfl, rfl, rfl, hb.trans (frame_jumpTo_tick _ near 13)⟩

/-- Settles O56: the unconditional forms differ in the target; the four conditions of JR cc are conditions
of table `cc`. -/
theorem jumps : Obligations.Jumps := by
  intro nn k j e m s near
  refine ⟨⟨_, exec_toInstr (.jp nn) s, rfl, rfl, frame_jumpTo_tick s nn 10⟩,
    ⟨_, exec_toInstr (.jpCc k nn) s, jpCc_eq s k nn⟩,
    ⟨_, exec_toInstr (.jr e) s, rfl, rfl, frame_jumpTo_tick s near 12⟩, ?_,
    ⟨_, exec_toInstr (.djnz e) s, djnz_eq s e⟩,
    ⟨_, exec_toInstr (.jpReg m) s, rfl, rfl, frame_jumpTo_tick s _ 4⟩⟩
  refine ⟨_, exec_toInstr (.jrCc j e) s, ?_⟩
  match j with
  | 0 => exact jrCc_eq s .nz e
  | 1 => exact jrCc_eq s .z e
  | 2 => exact jrCc_eq s .nc e
  | 3 => exact jrCc_eq s .c e

/-! ### Calls and restarts -/

/-- A property of the entries of a list and of one more entry under a condition. -/
theorem forall_mem_append_ite {α : Type} {P : α → Prop} {xs : List α} {c : Prop} [Decidable c] {x : α} :
    (∀ y ∈ xs ++ (if c then [x] else []), P y) ↔ (∀ y ∈ xs, P y) ∧ (c → P x) := by
  rw [List.forall_mem_append]
  by_cases h : c <;> simp [h]

/-- Everything a CALL or RST can do (rules R407, R413). -/
theorem enterHandler_tick_eq (s : State) (target : Word) (n : Nat) :
    let t := (s.enterHandler target).tick n
    t.pc = target ∧ t.wz = target ∧ t.sp = s.sp - 2 ∧
      (Memory.wf s.mem = true →
        byteAt t (s.sp - 1) = hiByte s.pc ∧ byteAt t (s.sp - 2) = loByte s.pc) ∧
      t.history = .write (s.sp - 2) (loByte s.pc) :: .write (s.sp - 1) (hiByte s.pc) :: s.history ∧
      Frame [.pc, .wz, .sp, .history, .ticks] [s.sp - 1, s.sp - 2] s t := by
  obtain ⟨_, hhist, _, hmem, _⟩ := push16_eq s s.pc
  obtain ⟨hpc, hwz, hsp, henter⟩ := enterHandler_eq s target
  exact ⟨hpc, hwz, hsp, hmem, hhist, henter.trans (frame_tick _ n)⟩

/-- A taken CALL cc,nn is a call (rule R408). -/
theorem exec_callCc_taken (h : condition k s = true) (nn : Word) :
    exec (Op.callCc k nn).toInstr s = .next ((s.enterHandler nn).tick 17) :=
  (exec_toInstr (.callCc k nn) s).trans (congrArg Host.Outcome.next (if_pos ((condHolds_eq k s).trans h)))

/-- An untaken CALL cc,nn writes WZ alone (rule R408). -/
theorem exec_callCc_untaken (h : condition k s = false) (nn : Word) :
    exec (Op.callCc k nn).toInstr s = .next ((s.setWz nn).tick 10) :=
  (exec_toInstr (.callCc k nn) s).trans (congrArg Host.Outcome.next (if_neg (by simp [condHolds_eq, h])))

/-- Settles O57: CALL, RST and a taken CALL cc differ in the target. -/
theorem callsAndRestarts : Obligations.CallsAndRestarts := by
  intro nn k y s
  rw [forall_mem_append_ite, List.forall_mem_cons, List.forall_mem_singleton]
  exact ⟨⟨⟨⟨_, exec_toInstr (.call nn) s, enterHandler_tick_eq s nn 17⟩,
      ⟨_, exec_toInstr (.rst y) s, enterHandler_tick_eq s (rstTarget y) 11⟩⟩,
      fun h => ⟨_, exec_callCc_taken h nn, enterHandler_tick_eq s nn 17⟩⟩,
    fun h => ⟨_, exec_callCc_untaken h nn, rfl, (frame_setWz s nn).trans (frame_tick _ 10)⟩⟩

/-! ### Returns -/

/-- Everything RET and a taken RET cc can do (rules R409, R410). -/
theorem returnToCaller_tick_eq (s : State) (n : Nat) :
    let t := s.returnToCaller.tick n
    t.pc = wordAt s s.sp ∧ t.wz = wordAt s s.sp ∧ t.sp = s.sp + 2 ∧
      t.history = wordReads s s.sp ++ s.history ∧ Frame [.pc, .wz, .sp, .history, .ticks] [] s t := by
  obtain ⟨hpc, hwz, hsp, hhist, hret⟩ := returnToCaller_eq s
  exact ⟨hpc, hwz, hsp, hhist, hret.trans (frame_tick _ n)⟩

/-- A taken RET cc is a return (rule R410). -/
theorem exec_retCc_taken (h : condition k s = true) :
    exec (Op.retCc k).toInstr s = .next (s.returnToCaller.tick 11) :=
  (exec_toInstr (.retCc k) s).trans (congrArg Host.Outcome.next (if_pos ((condHolds_eq k s).trans h)))

/-- An untaken RET cc lets time pass (rule R410). -/
theorem exec_retCc_untaken (h : condition k s = false) :
    exec (Op.retCc k).toInstr s = .next (s.tick 5) :=
  (exec_toInstr (.retCc k) s).trans (congrArg Host.Outcome.next (if_neg (by simp [condHolds_eq, h])))

/-- Everything a return from a handler can do (rules R411, R412): a pop does not write IFF2. -/
theorem returnFromHandler_eq (s : State) :
    let t := s.returnFromHandler
    t.pc = wordAt s s.sp ∧ t.wz = wordAt s s.sp ∧ t.sp = s.sp + 2 ∧ t.iff1 = s.iff2 ∧
      t.history = wordReads s s.sp ++ s.history ∧ Frame [.pc, .wz, .sp, .history, .iff1] [] s t := by
  obtain ⟨hpc, hwz, hsp, hhist, _⟩ := returnToCaller_eq s
  exact ⟨hpc, hwz, hsp, rfl, hhist, frame_returnFromHandler s⟩

/-- Settles O58: RETI and RETN differ in the pulse RETI records. -/
theorem returns : Obligations.Returns := by
  intro k y s
  obtain ⟨hpc, hwz, hsp, hiff, hhist, hret⟩ := returnFromHandler_eq s
  rw [forall_mem_append_ite, List.forall_mem_singleton, List.forall_mem_cons, List.forall_mem_singleton]
  refine ⟨⟨⟨_, exec_toInstr .ret s, returnToCaller_tick_eq s 10⟩,
      fun h => ⟨_, exec_retCc_taken h, returnToCaller_tick_eq s 11⟩⟩,
    fun h => ⟨_, exec_retCc_untaken h, frame_tick s 5⟩,
    ⟨_, exec_toInstr (.ed .reti) s, hpc, hwz, hsp, hiff, congrArg (Event.signalReti :: ·) hhist, ?_⟩,
    ⟨_, exec_toInstr (.ed (.retn y)) s, hpc, hwz, hsp, hiff, hhist, ?_⟩⟩
  · exact ((hret.trans (frame_record _ .signalReti)).trans (frame_tick _ 14)).mono (by simp) (by simp)
  · exact (hret.trans (frame_tick _ 14)).mono (by simp) (by simp)

end Sys2Proof.Safety
end

section
/-! PROOFS. Instructions complete, the T-states they take, and the effect of reset (60_exceptions.md rule R501,
70_reset_and_hazards.md rules R600, R601, R608, R609). -/

namespace Sys2Proof.Safety

open Sys2Proof.Machine

/-- Settles O11: an instruction is a table entry's, which completes, or an IM. -/
theorem everyInstructionCompletes : Obligations.EveryInstructionCompletes := by
  intro i s
  rcases exists_toInstr_or_im i with ⟨p, rfl⟩ | ⟨y, rfl | rfl | rfl⟩
  · exact ⟨_, exec_toInstr p s⟩
  all_goals exact ⟨_, rfl⟩

/-- Settles O22, by what each table entry adds to the clock. -/
theorem elapsedTStates : Obligations.ElapsedTStates := fun p s =>
  ⟨_, exec_toInstr p s, (advance_runOp p s).ticks⟩

/-- Reset disables interrupts and leaves HALT, so that only memory matters to the invariant
(70_reset_and_hazards.md rule R601). -/
theorem inv_applyReset (fill : ResetFill) {s : State} (h : Memory.wf s.mem = true) : Inv (s.applyReset fill) :=
  ⟨h, fun hi => absurd hi Bool.false_ne_true, fun he => absurd he Bool.false_ne_true,
    fun hh => absurd hh Bool.false_ne_true⟩

/-- Settles O9: `State.reset` is a reset with every draw 0. -/
theorem invariantAtReset : Obligations.InvariantAtReset :=
  ⟨inv_applyReset .zero State.wf_reset, fun fill _ h => inv_applyReset fill h⟩

/-- Settles O10: with the latch and both flip-flops cleared, no interrupt is taken right after reset. -/
theorem resetState : Obligations.ResetState := by
  intro fill s t
  have hint : t.takesInt = false := by simp [t, State.takesInt, State.applyReset]
  exact ⟨rfl, rfl, rfl, rfl, rfl, rfl, rfl, rfl, rfl, rfl, rfl, rfl, rfl, rfl, rfl, rfl, rfl, rfl, rfl, rfl,
    rfl, rfl, rfl, stepRunsDecodedInstruction t rfl hint⟩

end Sys2Proof.Safety
end

section
/-! PROOFS. Which kind of step is taken, and the acceptance of interrupts (60_exceptions.md rules R500 to
R512). -/

namespace Sys2Proof.Safety

open Sys2Proof.Machine

variable {s t : State}

/-! ### The kind of a step -/

theorem takesNmi_iff : s.takesNmi = true ↔ s.indexMode = .hl ∧ s.nmiPending = true := by
  simp [State.takesNmi]

theorem takesInt_iff :
    s.takesInt = true ↔
      s.indexMode = .hl ∧ s.intLine = true ∧ s.iff1 = true ∧ s.eiPending = false := by
  simp [State.takesInt, and_assoc]

theorem step_of_takesNmi (h : s.takesNmi = true) : step s = .next s.acceptNmi :=
  if_pos h

theorem step_of_takesInt (hn : s.takesNmi = false) (hi : s.takesInt = true) :
    step s = s.acceptInt s.intData := by
  show s.runStep = _
  simp [State.runStep, hn, hi]

/-- A step without an interrupt runs the table entry of the fetched bytes (30_encoding.md rule R118). -/
theorem step_eq_runOp (hn : s.takesNmi = false) (hi : s.takesInt = false) :
    step s = .next (runOp (decodeOp s.indexMode s.fetchBytes.1) s.fetched) :=
  (stepRunsDecodedInstruction s hn hi).trans (runInstruction_eq s)

/-- At an instruction boundary with the NMI latched the step accepts it (rule R505). -/
theorem step_eq_acceptNmi (hm : s.indexMode = .hl) (hn : s.nmiPending = true) : step s = .next s.acceptNmi :=
  step_of_takesNmi (takesNmi_iff.mpr ⟨hm, hn⟩)

/-- At an instruction boundary with no NMI latched, the line asserted, IFF1 set and no EI shadow the step accepts
the maskable interrupt (rule R505). -/
theorem step_eq_acceptInt (hm : s.indexMode = .hl) (hn : s.nmiPending = false) (hl : s.intLine = true)
    (hi : s.iff1 = true) (he : s.eiPending = false) : step s = s.acceptInt s.intData :=
  step_of_takesInt (by simp [State.takesNmi, hn]) (takesInt_iff.mpr ⟨hm, hl, hi, he⟩)

/-- Settles O16, clause by clause from what each kind of step needs. -/
theorem interruptPriority : Obligations.InterruptPriority := by
  intro s run
  refine ⟨fun hm => ?_, step_eq_acceptNmi, step_eq_acceptInt, fun _ hn hoff => ?_⟩
  · exact stepRunsDecodedInstruction s (by simp [State.takesNmi, hm]) (by simp [State.takesInt, hm])
  · refine stepRunsDecodedInstruction s (by simp [State.takesNmi, hn]) ?_
    rcases hoff with h | h | h <;> simp [State.takesInt, h]

/-! ### Mode 0 -/

/-- A mode 0 acceptance runs the table entry of the data byte, or refuses it (rules R508, R512). -/
theorem acceptInt_im0 (hm : s.im = .im0) (v : Byte) :
    s.acceptInt v =
      if singleByte v then .next (runOp (decodeOp .hl [v]) ((s.acknowledgeInt v).tick 2))
      else .refused (.im0Data v) := by
  rw [acceptInt_eq, State.acceptIntOp, hm]

/-- A maskable acceptance in mode 1 or 2 completes whatever the data byte (rules R509, R510). -/
theorem acceptInt_completes (hm : s.im ≠ .im0) (v : Byte) : ∃ t, s.acceptInt v = .next t := by
  rw [acceptInt_eq, State.acceptIntOp]
  cases h : s.im with
  | im0 => exact absurd h hm
  | im1 => exact ⟨_, rfl⟩
  | im2 => exact ⟨_, rfl⟩

/-- Settles O12: an NMI acceptance and an instruction complete, and so does a maskable acceptance unless
mode 0 refuses its data byte. -/
theorem onlyRefusalIsIm0Data : Obligations.OnlyRefusalIsIm0Data := by
  intro s
  have hrefused : s.takesNmi = false → s.takesInt = true → s.im = .im0 → singleByte s.intData = false →
      step s = .refused (.im0Data s.intData) := fun hn hi hm hv => by
    rw [step_of_takesInt hn hi, acceptInt_im0 hm, hv]
    rfl
  refine ⟨⟨fun ⟨t, ht⟩ ⟨hn, hi, hm, hv⟩ => ?_, fun h => ?_⟩, hrefused⟩
  · rw [hrefused hn hi hm hv] at ht
    nomatch ht
  cases hn : s.takesNmi with
  | true => exact ⟨_, step_of_takesNmi hn⟩
  | false =>
    cases hi : s.takesInt with
    | false => exact ⟨_, step_eq_runOp hn hi⟩
    | true =>
      rw [step_of_takesInt hn hi]
      by_cases hm : s.im = .im0
      · have hv : singleByte s.intData = true := by simpa [hn, hi, hm] using h
        exact ⟨_, (acceptInt_im0 hm _).trans (if_pos hv)⟩
      · exact acceptInt_completes hm _

/-- The bytes mode 0 executes are the main-table opcodes of one byte that are no CB, DD, ED or FD and not HALT
(rule R508). -/
theorem singleByte_iff (v : Byte) :
    singleByte v = true ↔ instrLength .hl v 0 = 1 ∧ v ≠ 0xDD ∧ v ≠ 0xFD ∧ v ≠ 0x76 := by
  revert v
  apply forall_byte
  decide +kernel

/-- Settles O15: the state in which the data byte executes is the one `AcceptCommon` and `IntAck` leave, with
the 2 T-states of rule R508. -/
theorem im0Interrupt : Obligations.Im0Interrupt := by
  intro s hx hn hl hi he hm v ready
  rw [← singleByte_iff, step_eq_acceptInt hx hn hl hi he, acceptInt_im0 hm]
  refine ⟨fun hv => ?_, fun hv => if_neg hv⟩
  rw [if_pos hv]
  exact ⟨(exec_toInstr _ _).symm, _, rfl⟩

/-! ### Entering a handler -/

/-- The state in which an NMI acceptance enters its handler (rule R506). -/
def nmiAccepted (s : State) : State :=
  { (State.acceptCommon { s with nmiPending := false }) with iff1 := false }

theorem acceptNmi_eq (s : State) : s.acceptNmi = ((nmiAccepted s).enterHandler 0x0066).tick 11 := rfl

theorem frame_nmiAccepted (s : State) :
    Frame [.nmiPending, .halted, .pc, .r, .eiPending, .iff1] [] s (nmiAccepted s) :=
  Frame.of_mem_eq rfl fun p hp => by cases p <;> first | rfl | simp at hp

/-- Settles O13: the handler is entered from the state the acceptance leaves. -/
theorem nmiAcceptance : Obligations.NmiAcceptance := by
  intro s hm hn
  obtain ⟨hpc, hwz, hsp, hmem, hhist, henter⟩ := enterHandler_tick_eq (nmiAccepted s) 0x0066 11
  rw [← acceptNmi_eq] at hpc hwz hsp hmem hhist henter
  exact ⟨_, step_eq_acceptNmi hm hn, hpc, hwz, hsp, rfl, rfl, rfl, rfl,
    toNat_refreshStep s.r, hhist, hmem, rfl,
    ((frame_nmiAccepted s).trans henter).mono (by simp) fun _ => id⟩

/-- The second of two reads answers by memory, history and parameters alone. -/
theorem secondByte_congr (hm : t.mem = s.mem) (hh : t.history = s.history) (hp : t.params = s.params)
    (a b : Word) : secondByte t a b = secondByte s a b := by
  have hread : (t.record (.read a (t.busByte a))).history = (s.record (.read a (s.busByte a))).history := by
    rw [State.record_history, State.record_history, hh, busByte_congr hm hh hp]
  exact busByte_congr (t := t.record _) (s := s.record _) hm hread hp b

/-- A word read answers by memory, history and parameters alone. -/
theorem wordAt_congr (hm : t.mem = s.mem) (hh : t.history = s.history) (hp : t.params = s.params)
    (a : Word) : wordAt t a = wordAt s a := by
  rw [wordAt, wordAt, secondByte_congr hm hh hp, busByte_congr hm hh hp]

/-- So do its events. -/
theorem wordReads_congr (hm : t.mem = s.mem) (hh : t.history = s.history) (hp : t.params = s.params)
    (a : Word) : wordReads t a = wordReads s a := by
  rw [wordReads, wordReads, secondByte_congr hm hh hp, busByte_congr hm hh hp]

/-- Everything the mode 2 entry can do (rule R510): the vector is read after PC is pushed. -/
theorem enterIm2_eq (s : State) (v : Byte) :
    let pushed := s.push16 s.pc
    let vector := pair s.i v
    let t := s.enterIm2 v
    t.pc = wordAt pushed vector ∧ t.wz = t.pc ∧ t.sp = s.sp - 2 ∧
      t.history = wordReads pushed vector ++ pushed.history ∧
      (Memory.wf s.mem = true → byteAt t (s.sp - 1) = hiByte s.pc ∧ byteAt t (s.sp - 2) = loByte s.pc) ∧
      Frame [.pc, .wz, .sp, .history, .ticks] [s.sp - 1, s.sp - 2] s t := by
  intro pushed vector t
  obtain ⟨hsp, _, _, hmem, hpush⟩ := push16_eq s s.pc
  obtain ⟨hword, hreads, _, hread⟩ := readMem16_eq pushed vector
  refine ⟨hword, rfl, hsp, hreads, hmem, ?_⟩
  exact (((hpush.trans hread).trans (frame_jumpTo _ _)).trans (frame_tick _ 19)).mono (by simp) (by simp)

theorem acceptInt_im1 (hm : s.im = .im1) (v : Byte) :
    s.acceptInt v = .next (s.acknowledgeInt v).enterIm1 := by
  rw [State.acceptInt, hm]

theorem acceptInt_im2 (hm : s.im = .im2) (v : Byte) :
    s.acceptInt v = .next ((s.acknowledgeInt v).enterIm2 v) := by
  rw [State.acceptInt, hm]

/-- Settles O14: both modes enter a handler from the state the acknowledgement leaves, mode 2 at the word read
after the push. -/
theorem vectoredInterrupts : Obligations.VectoredInterrupts := by
  intro s hx hn hl hi he hm
  have hstep := step_eq_acceptInt hx hn hl hi he
  have hack := frame_acknowledgeInt s s.intData
  cases him : s.im with
  | im0 => exact absurd him hm
  | im1 =>
    obtain ⟨hpc, hwz, hsp, hmem, hhist, henter⟩ := enterHandler_tick_eq (s.acknowledgeInt s.intData) 0x0038 13
    exact ⟨_, hstep.trans (acceptInt_im1 him _), hsp, rfl, rfl, rfl, rfl, toNat_refreshStep s.r,
      fun _ => ⟨hpc, hwz, hhist, rfl⟩, nofun, hmem, (hack.trans henter).mono (by simp) fun _ => id⟩
  | im2 =>
    obtain ⟨hpc, hwz, hsp, hhist, hmem, henter⟩ := enterIm2_eq (s.acknowledgeInt s.intData) s.intData
    obtain ⟨_, hpushed, hbytes, _, _⟩ := push16_eq (s.acknowledgeInt s.intData) (s.acknowledgeInt s.intData).pc
    refine ⟨_, hstep.trans (acceptInt_im2 him _), ?_⟩
    intro saved events pushed vector
    have hword := wordAt_congr (s := pushed) hbytes hpushed rfl vector
    have hreads := wordReads_congr (s := pushed) hbytes hpushed rfl vector
    refine ⟨hsp, rfl, rfl, rfl, rfl, toNat_refreshStep s.r, nofun,
      fun _ => ⟨hpc.trans hword, hwz, ?_, rfl⟩, hmem, (hack.trans henter).mono (by simp) fun _ => id⟩
    rw [hhist, hpushed]
    exact congrArg (· ++ events) hreads

end Sys2Proof.Safety
end

section
/-! PROOFS. CPU control, the DD and FD bytes, and the steps after them (48_cpu_control.md rules R430 to R438,
60_exceptions.md rules R502, R505, R521). -/

namespace Sys2Proof.Safety

open Sys2Proof.Machine

variable {s : State} {op : Byte}

/-! ### CPU control -/

theorem frame_halt (s : State) : Frame [.halted, .pc, .ticks] [] s s.halt :=
  Frame.of_mem_eq rfl fun p hp => by cases p <;> first | rfl | simp at hp

theorem frame_di (s : State) : Frame [.iff1, .iff2, .ticks] [] s s.di :=
  Frame.of_mem_eq rfl fun p hp => by cases p <;> first | rfl | simp at hp

theorem frame_ei (s : State) : Frame [.iff1, .iff2, .eiPending, .ticks] [] s s.ei :=
  Frame.of_mem_eq rfl fun p hp => by cases p <;> first | rfl | simp at hp

theorem frame_setIm (s : State) (m : IntMode) : Frame [.im, .ticks] [] s (s.setIm m) :=
  Frame.of_mem_eq rfl fun p hp => by cases p <;> first | rfl | simp at hp

/-- Table `im` (30_encoding.md rule R107). -/
theorem imMode_eq (y : Fin 8) :
    some (imMode y) = [IntMode.im0, .im0, .im1, .im2, .im0, .im0, .im1, .im2][y.val]? := by
  revert y
  decide

/-- Settles O59, entry by entry. -/
theorem cpuControl : Obligations.CpuControl := by
  intro y op s
  rw [List.forall_mem_cons, List.forall_mem_singleton]
  exact ⟨⟨⟨_, exec_toInstr .nop s, frame_tick s 4⟩, ⟨_, exec_toInstr (.ed (.noni op)) s, frame_tick s 8⟩⟩,
    ⟨_, exec_toInstr .halt s, rfl, rfl, frame_halt s⟩,
    ⟨_, exec_toInstr .di s, rfl, rfl, frame_di s⟩,
    ⟨_, exec_toInstr .ei s, rfl, rfl, rfl, frame_ei s⟩,
    ⟨_, exec_toInstr (.ed (.im y)) s, imMode_eq y, frame_setIm s (imMode y)⟩⟩

/-! ### A halted core -/

/-- HALT on its own byte at an instruction boundary, already halted, changes R, the clock, the history and the
EI shadow alone (48_cpu_control.md rule R431). -/
theorem runOp_halt_of_halted (hop : s.busByte s.pc = 0x76) (hh : s.halted = true) (hx : s.indexMode = .hl) :
    runOp .halt s.fetched =
      { s with
        r := refreshStep s.r, ticks := s.ticks + 4
        history := .fetch s.pc 0x76 true :: s.history, eiPending := false } := by
  have hpc : s.pc + 1 - 1 = s.pc := by bv_omega
  rw [fetched_halt hop]
  simp only [runOp, State.halt, State.fetchOpcode, State.tick, hpc, hop, ← hh, ← hx]

/-- Settles O18: the invariant puts a halted core on its HALT byte. -/
theorem haltedCoreRepeatsHalt : Obligations.HaltedCoreRepeatsHalt := by
  intro s hinv hh hb hn hi
  obtain ⟨hx, hbyte⟩ := hinv.halt hh hb
  have hop : s.busByte s.pc = 0x76 := (busByte_ram hb s.pc).trans hbyte
  obtain ⟨b1, b2, b3, hp⟩ := decodeOp_fetchBytes s
  have hstep : step s = .next (runOp .halt s.fetched) := by
    rw [step_eq_runOp hn hi, hp, show s.fetchOpcode.1 = 0x76 from hop, decodeOpAt_halt]
  rw [runOp_halt_of_halted hop hh hx] at hstep
  exact ⟨_, hstep, toNat_refreshStep s.r, rfl, rfl, rfl, hh,
    Frame.of_mem_eq rfl fun p hp => by cases p <;> first | rfl | simp at hp⟩

/-! ### The step after EI and after DD or FD -/

theorem runOp_indexMode_eq {p : Op} (s : State) (h : ∀ x m, p ≠ .index x m) :
    (runOp p s).indexMode = s.indexMode := by
  rw [runOp_indexMode]
  cases p with
  | index x m => exact absurd rfl (h x m)
  | _ => rfl

theorem runOp_index_indexMode_ne (x : IdxReg) (m : IndexMode) (s : State) :
    (runOp (.index x m) s).indexMode ≠ .hl := by
  cases x <;> nofun

/-- An EI shadow or a pending DD or FD holds off the maskable interrupt (60_exceptions.md rules R502, R505). -/
theorem takesInt_eq_false (h : s.eiPending = true ∨ s.indexMode ≠ .hl) : s.takesInt = false := by
  rcases h with h | h <;> simp [State.takesInt, h]

/-- A step whose entry does not set the index mode fetched another opcode than DD and FD. -/
theorem isPrefix_eq_false (h : ∀ x m, decodeOp s.indexMode s.fetchBytes.1 ≠ .index x m) :
    isPrefix s.fetchOpcode.1 = false := by
  obtain ⟨b1, b2, b3, hp⟩ := decodeOp_fetchBytes s
  by_contra hpre
  obtain ⟨x, hx⟩ := decodeOpAt_prefix (Bool.not_eq_false _ ▸ hpre) s.indexMode b1 b2 b3
  exact h x _ (hp.trans hx)

/-- Settles O17: EI starts the shadow, DD and FD set the index mode, and the fetch of every other opcode has
ended both. -/
theorem eiShadowAndPrefixHoldOffInterrupts : Obligations.EiShadowAndPrefixHoldOffInterrupts := by
  intro s t line data hn hi ht p u
  obtain rfl : runOp p s.fetched = t := Host.Outcome.next.inj ((step_eq_runOp hn hi).symm.trans ht)
  refine ⟨fun hp => ?_, fun ⟨x, m, hp⟩ => ?_, fun he hx => ?_⟩
  · have hei : (runOp p s.fetched).eiPending = true := by rw [hp]; rfl
    exact ⟨hei, takesInt_eq_false (.inl hei)⟩
  · have hm : (runOp p s.fetched).indexMode ≠ .hl := hp ▸ runOp_index_indexMode_ne x m _
    have hu : u.requestNmi.indexMode ≠ .hl := hm
    exact ⟨hm, takesInt_eq_false (.inr hm), by simp [State.takesNmi, hu]⟩
  · have hfetch := fetched_eiPending_indexMode s
    rw [isPrefix_eq_false hx] at hfetch
    rw [runOp_eiPending_eq _ he, runOp_indexMode_eq _ hx]
    exact Prod.mk.inj hfetch

/-! ### Opcodes that DD and FD do not affect (30_encoding.md rule R117 items 5 and 6) -/

/-- An unaffected opcode stands for one instruction under every index mode: the index mode is evaluated away
opcode by opcode. -/
theorem decodeOpAt_unaffected (h : op ∉ prefixedOpcodes) (m : IndexMode) (b1 b2 b3 : Byte) :
    (decodeOpAt m op b1 b2 b3).toInstr = (decodeOpAt .hl op b1 b2 b3).toInstr := by
  have key : ∀ n, n < 256 → BitVec.ofNat 8 n ∉ prefixedOpcodes →
      (decodeOpAt m (BitVec.ofNat 8 n) b1 b2 b3).toInstr =
        (decodeOpAt .hl (BitVec.ofNat 8 n) b1 b2 b3).toInstr := by
    intro n hn
    cases m <;> interval_cases n
    any_goals exact fun _ => rfl
    all_goals exact fun hn => absurd (by decide) hn
  simpa using key op.toNat op.isLt (by simpa using h)

/-- The entry of an unaffected opcode leaves the index mode alone. -/
theorem runOp_unaffected_indexMode (h : op ∉ prefixedOpcodes) (b1 b2 b3 : Byte) (s : State) :
    (runOp (decodeOpAt .hl op b1 b2 b3) s).indexMode = s.indexMode := by
  have key : ∀ n, n < 256 → BitVec.ofNat 8 n ∉ prefixedOpcodes →
      (controlAfter (decodeOpAt .hl (BitVec.ofNat 8 n) b1 b2 b3) s).indexMode = s.indexMode := by
    intro n hn
    interval_cases n
    any_goals exact fun _ => rfl
    all_goals exact fun hn => absurd (by decide) hn
  rw [runOp_indexMode]
  simpa using key op.toNat op.isLt (by simpa using h)

theorem ne_of_not_mem_prefixedOpcodes (h : op ∉ prefixedOpcodes) :
    op ≠ 0xCB ∧ op ≠ 0xED ∧ isPrefix op = false ∧ op ∉ indexedMemoryOpcodes := by
  simp only [prefixedOpcodes, List.mem_append, List.mem_cons, List.not_mem_nil, or_false, not_or] at h
  obtain ⟨⟨⟨hmem, _⟩, _⟩, hcb, hdd, hed, hfd⟩ := h
  exact ⟨hcb, hed, Bool.eq_false_iff.mpr fun hp => (isPrefix_iff.mp hp).elim hdd hfd, hmem⟩

theorem operandCount_unaffected (h : op ∉ prefixedOpcodes) (m : IndexMode) :
    operandCount m op = immediateCount op := by
  obtain ⟨hcb, _, _, hmem⟩ := ne_of_not_mem_prefixedOpcodes h
  rw [operandCount_eq m hcb, if_neg fun hc => hmem hc.2, Nat.add_zero]

theorem instrLength_unaffected (h : op ∉ prefixedOpcodes) (m : IndexMode) (b1 : Byte) :
    instrLength m op b1 = 1 + immediateCount op := by
  obtain ⟨hcb, hed, _, _⟩ := ne_of_not_mem_prefixedOpcodes h
  rw [instrLength_main hed hcb, operandCount_unaffected h]

/-- Operand fetches neither read nor write the index mode. -/
theorem fetchOperands_indexMode (n : Nat) (s : State) (m : IndexMode) :
    State.fetchOperands n { s with indexMode := m } =
      ((s.fetchOperands n).1, { (s.fetchOperands n).2 with indexMode := m }) := by
  induction n generalizing s with
  | zero => rfl
  | succ n ih => exact congrArg (fun f => (s.fetchByte.1 :: f.1, f.2)) (ih s.fetchByte.2)

/-- The fetch of an unaffected opcode: an M1 fetch and its immediate bytes. -/
theorem fetchBytes_unaffected (h : s.fetchOpcode.1 ∉ prefixedOpcodes) :
    let f := s.fetchOpcode.2.fetchOperands (immediateCount s.fetchOpcode.1)
    s.fetchBytes = (s.fetchOpcode.1 :: f.1, f.2) := by
  obtain ⟨hcb, hed, _, _⟩ := ne_of_not_mem_prefixedOpcodes h
  unfold State.fetchBytes
  dsimp only
  rw [if_neg hed, if_neg fun hc => hcb hc.1, operandCount_unaffected h]

/-- An unaffected opcode and its operand bytes stand for one instruction under every index mode. -/
theorem decodeFetched_unaffected (h : op ∉ prefixedOpcodes) (m : IndexMode) (rest : List Byte) :
    decodeFetched m (op :: rest) = decodeFetched .hl (op :: rest) :=
  decodeOpAt_unaffected h m _ _ _

/-- The step that fetches an unaffected opcode does the same whatever index mode was pending. -/
theorem runInstruction_unaffected (h : s.fetchOpcode.1 ∉ prefixedOpcodes) (m : IndexMode) :
    let f := s.fetchOpcode.2.fetchOperands (immediateCount s.fetchOpcode.1)
    ({ s with indexMode := m } : State).runInstruction =
      .next (runOp (decodeOp .hl (s.fetchOpcode.1 :: f.1)) { f.2 with eiPending := false, indexMode := .hl }) := by
  intro f
  obtain ⟨_, _, hpre, _⟩ := ne_of_not_mem_prefixedOpcodes h
  let sm : State := { s with indexMode := m }
  have hfetch : sm.fetchBytes = (s.fetchOpcode.1 :: f.1, { f.2 with indexMode := m }) := by
    rw [fetchBytes_unaffected (s := sm) h]
    exact congrArg (fun g => (s.fetchOpcode.1 :: g.1, g.2)) (fetchOperands_indexMode _ s.fetchOpcode.2 m)
  have hstate : sm.fetched = { f.2 with eiPending := false, indexMode := .hl } := by
    rw [State.fetched, hfetch, State.startInstr, show sm.fetchOpcode.1 = s.fetchOpcode.1 from rfl, hpre]
    rfl
  show exec (decodeFetched m sm.fetchBytes.1) sm.fetched = _
  rw [hfetch, hstate, decodeFetched_unaffected h]
  exact exec_toInstr _ _

/-! ### DD, FD and ED behind them -/

theorem frame_index (s : State) (x : IdxReg) : Frame [.indexMode, .ticks] [] s (s.index x) := by
  cases x <;> exact Frame.of_mem_eq rfl fun p hp => by cases p <;> first | rfl | simp at hp

/-- Settles O60: DD and FD set the index mode, an ED entry behind them is the plain one, and the opcodes
outside `prefixedOpcodes` decode, count and run alike under every index mode. -/
theorem prefixSteps : Obligations.PrefixSteps := by
  refine ⟨fun x m s => ?_, fun x e s => ?_, fun m op rest h => ?_, fun m s h => ?_⟩
  · exact ⟨_, exec_toInstr (.index x m) s, by cases x <;> rfl, frame_index s x⟩
  · exact ⟨_, exec_toInstr (.edUnder x e) s, exec_toInstr (.ed e) s⟩
  · exact ⟨decodeFetched_unaffected h m rest, fun b1 =>
      (instrLength_unaffected h m b1).trans (instrLength_unaffected h .hl b1).symm⟩
  · exact ⟨_, runInstruction_unaffected h m, runInstruction_unaffected h .hl,
      runOp_unaffected_indexMode h _ _ _ _⟩

end Sys2Proof.Safety
end
